-- ==== Sys2Proof/Word.lean ====
section
/-! DEFINITION. The word types of the Varstel LB4: what the data sheet treats as bits is a bit vector,
what it numbers (links, stations, tags) is a bounded index. -/

namespace Sys2Proof

/-- A byte on a link line (R126). -/
abbrev Byte := BitVec 8

/-- A word of the register window and of the remote space (16 bits). -/
abbrev Word := BitVec 16

/-- A host or remote address: a 24-bit word address. -/
abbrev Addr := BitVec 24

/-- One of the four links L0 to L3. -/
abbrev LinkId := Fin 4

/-- A station of a link, 0 to 7. -/
abbrev StationId := Fin 8

/-- The index of a tag record, 0 to 31 (R1). -/
abbrev TagId := Fin 32

/-- The generation of a tag, which counts modulo 4 (R1, R3). -/
abbrev Gen := BitVec 2

/-- A sequence number of a posted write, which counts modulo 64 (R52). -/
abbrev Seq := BitVec 6

/-- A word offset of the register window, A5 to A0 (R183). -/
abbrev Offset := BitVec 6

end Sys2Proof
end

