-- ==== Sys2Proof/Syntax.lean ====
section
/-! DEFINITION. The commands of the block: one constructor for each row of spec/opcode_table.json. -/

namespace Sys2Proof

/-- The two registers of the staged address (R96). -/
inductive AddrHalf where
  /-- RADDR_H -/
  | high
  /-- RADDR_L -/
  | low
  deriving DecidableEq, Repr

/-- The two queues whose records carry an age count (R167). -/
inductive AgedQueue where
  /-- the completion queue -/
  | completion
  /-- the event queue -/
  | event
  deriving DecidableEq, Repr

/-- A command: a host register write, an edge of RESET_N, a tick or an expiry, the end of a transmission, or
something received on a link. Received frames carry the link, the station field of the header and every
further byte of the body, the bits that R133 ignores among them. -/
inductive Instr where
  /-- ISSUE_WRITE: a write of 1 to ISSUE (R99). -/
  | issueWrite
  /-- ISSUE_WRITE_CONFIRMED: a write of 2 to ISSUE (R99). -/
  | issueWriteConfirmed
  /-- ISSUE_READ: a write of 3 to ISSUE (R99). -/
  | issueRead
  /-- BAD_KIND: a write of any other value to ISSUE (R97). -/
  | badKind (value : Word)
  /-- STREAM_DATA: a write of a data word to STREAM_DATA (R102). -/
  | streamData (data : Word)
  /-- RADDR_WRITE: a write to RADDR_H or RADDR_L (R96). -/
  | raddrWrite (half : AddrHalf) (value : Word)
  /-- CQ_POP: a write of any value to CQ_POP (R76). -/
  | cqPop (value : Word)
  /-- EQ_POP: a write of any value to EQ_POP (R113). -/
  | eqPop (value : Word)
  /-- START: a write of 1 to LINK_CMD (R145). -/
  | start
  /-- STOP: a write of 2 to LINK_CMD (R148). -/
  | stop
  /-- BAD_COMMAND: a write of any other value to LINK_CMD (R144). -/
  | badCommand (value : Word)
  /-- SOFT_RESET: a write of 1 to CHIP_CMD (R181). -/
  | softReset
  /-- INT_STATUS_WRITE (R170). -/
  | intStatusWrite (value : Word)
  /-- INT_ENABLE_WRITE (R171). -/
  | intEnableWrite (value : Word)
  /-- CQ_TRIGGER_WRITE (R78). -/
  | cqTriggerWrite (value : Word)
  /-- CQ_AGE_WRITE (R79). -/
  | cqAgeWrite (value : Word)
  /-- EQ_TRIGGER_WRITE (R114). -/
  | eqTriggerWrite (value : Word)
  /-- EQ_AGE_WRITE (R114). -/
  | eqAgeWrite (value : Word)
  /-- CONFIG_WRITE: a write to any register that has no row of its own (R179, R176). -/
  | configWrite (offset : Offset) (value : Word)
  /-- PIN_RESET: RESET_N goes low (R180). -/
  | pinReset
  /-- RESET_RELEASE: RESET_N goes high (R180). -/
  | resetRelease
  /-- TICK: the 1 µs tick (R165). -/
  | tick
  /-- REPLY_TIMER_EXPIRY of a tag (R6). -/
  | replyTimerExpiry (tag : TagId)
  /-- RETRY_DELAY_EXPIRY of a tag (R16). -/
  | retryDelayExpiry (tag : TagId)
  /-- REPLAY_TIMER_EXPIRY of a link (R62). -/
  | replayTimerExpiry (link : LinkId)
  /-- PAUSE_HOLD_EXPIRY of a link (R47). -/
  | pauseHoldExpiry (link : LinkId)
  /-- HELLO_INTERVAL_EXPIRY of a link (R149). -/
  | helloIntervalExpiry (link : LinkId)
  /-- CQ_AGE_EXPIRY: the head record's age count reaches CQ_AGE (R80). -/
  | cqAgeExpiry
  /-- EQ_AGE_EXPIRY: the head record's age count reaches EQ_AGE (R115). -/
  | eqAgeExpiry
  /-- AGE_COUNT_INCREMENT of the record at a position of a queue, the head at 0 (R167). -/
  | ageCountIncrement (queue : AgedQueue) (position : Nat)
  /-- END_OF_REQUEST_TRANSMISSION: an RD or WRC frame of a link ends (R4). -/
  | endOfRequestTransmission (link : LinkId)
  /-- END_OF_FIRST_WR_TRANSMISSION: a first WR transmission of a link ends (R54). -/
  | endOfFirstWrTransmission (link : LinkId)
  /-- END_OF_PASS_FRAME: a replay-pass frame of a link ends (R63). -/
  | endOfPassFrame (link : LinkId)
  /-- END_OF_CONTROL_FRAME: a HELLO, HELLO_ACK, PAUSE or RESUME of a link ends (R43). -/
  | endOfControlFrame (link : LinkId)
  /-- ABORT_SEQUENCE_END: the abort sequence of a link ends (R49). -/
  | abortSequenceEnd (link : LinkId)
  /-- HELLO: a good HELLO received (R151, R153). -/
  | hello (link : LinkId) (station : StationId) (version : Byte)
  /-- HELLO_ACK: a good HELLO_ACK received (R150). -/
  | helloAck (link : LinkId) (station : StationId) (version : Byte)
  /-- ACKP: a good ACKP received; bits 5 to 0 of the second byte are the next expected seq (R57). -/
  | ackp (link : LinkId) (station : StationId) (second : Byte)
  /-- DONE: a good DONE received; the second byte is the tag byte (R11). -/
  | done (link : LinkId) (station : StationId) (tag : Byte)
  /-- DATA: a good DATA received, with its tag byte and read data (R11). -/
  | data (link : LinkId) (station : StationId) (tag : Byte) (word : Word)
  /-- FAULT: a good FAULT received, with its tag byte and fault code byte (R11). -/
  | fault (link : LinkId) (station : StationId) (tag : Byte) (code : Byte)
  /-- RETRY: a good RETRY received, with its tag byte (R13). -/
  | retry (link : LinkId) (station : StationId) (tag : Byte)
  /-- EVT: a good EVT received, with its event code and payload (R109). -/
  | evt (link : LinkId) (station : StationId) (code : Byte) (payload : Word)
  /-- PAUSE: a good PAUSE received (R45). -/
  | pause (link : LinkId) (station : StationId) (second : Byte)
  /-- RESUME: a good RESUME received (R46). -/
  | resume (link : LinkId) (station : StationId) (second : Byte)
  /-- MALFORMED_FRAME: a malformed frame closes (R138). -/
  | malformedFrame (link : LinkId)
  /-- ABORTED_FRAME: an escape followed by a flag discards the received frame (R135). -/
  | abortedFrame (link : LinkId)
  /-- BYTE_RECEIVED: the receiver of a link takes one byte (R134). -/
  | byteReceived (link : LinkId) (byte : Byte)
  deriving DecidableEq, Repr

end Sys2Proof
end

