-- ==== Sys2Proof/Decode.lean ====
section
/-! DEFINITION. Decoding. No row of spec/opcode_table.json gives bits, so no word spells a command and
`decodeTableWord` answers none. What the part itself decodes is a host write, by its offset and value
(R183): `hostCommand` names the row that each of the writes is. -/

namespace Sys2Proof

/-- The command that a word spells by the table's bits: none, since no row of the table gives bits. -/
def decodeTableWord (_nbits _w : Nat) : Option Instr := none

/-- The row of the table that a write of `value` at `offset` of the register window is (R97, R144, R176,
R183). -/
def hostCommand (offset : Offset) (value : Word) : Instr :=
  match offset.toNat with
  | 0x00 => if value = 1 then .softReset else .configWrite offset value
  | 0x01 => .intStatusWrite value
  | 0x02 => .intEnableWrite value
  | 0x04 => .raddrWrite .high value
  | 0x05 => .raddrWrite .low value
  | 0x07 =>
    if value = 1 then .issueWrite
    else if value = 2 then .issueWriteConfirmed
    else if value = 3 then .issueRead
    else .badKind value
  | 0x09 => .streamData value
  | 0x18 => .cqPop value
  | 0x19 => .cqTriggerWrite value
  | 0x1A => .cqAgeWrite value
  | 0x25 => .eqPop value
  | 0x26 => .eqTriggerWrite value
  | 0x27 => .eqAgeWrite value
  | 0x32 =>
    if value = 1 then .start
    else if value = 2 then .stop
    else .badCommand value
  | _ => .configWrite offset value

end Sys2Proof
end

