-- ==== Sys2Proof/Config.lean ====
section
/-! DEFINITION. What the part fixes (capacities, fixed durations, limits), each with its rule, and the one
value the data sheet leaves open: which byte of a frame is on the line when it is aborted. -/

namespace Sys2Proof.Config

/-- Entries of one transmit queue (R29). -/
def txQueueCapacity : Nat := 16

/-- Entries of one replay list (R52). -/
def replayCapacity : Nat := 8

/-- Records of the completion queue (R71). -/
def completionCapacity : Nat := 32

/-- Records of the event queue (R107). -/
def eventCapacity : Nat := 64

/-- Largest value of the saturating counts of 0 to 255. -/
def byteMax : Nat := 255

/-- Largest value of the bad-frame count (R138). -/
def badFrameMax : Nat := 65535

/-- Malformed frames in a row that fail a link (R138). -/
def consecutiveBadLimit : Nat := 8

/-- HELLO frames of one training (R149). -/
def trainingAttemptLimit : Nat := 16

/-- The HELLO interval in microseconds (R142). -/
def helloInterval : Nat := 1000

/-- Unit of the reply timer and of the replay timer, in microseconds (R8, R56). -/
def replyUnit : Nat := 64

/-- Unit of the retry-delay timer, in microseconds (R8). -/
def delayUnit : Nat := 16

/-- Unit of the pause-hold timer, in microseconds (R44). -/
def holdUnit : Nat := 256

/-- Unit of an age count, in microseconds (R167). -/
def ageUnit : Nat := 16

/-- Bytes of a frame that the receiver keeps (R134). -/
def keptBytes : Nat := 9

/-- The flag byte (R128). -/
def flagByte : Byte := 0xA5

/-- The escape byte (R128). -/
def escapeByte : Byte := 0x5A

/-- The stuffed second byte that stands for 0xA5 (R129). -/
def stuffedFlag : Byte := 0x85

/-- The stuffed second byte that stands for 0x5A (R129). -/
def stuffedEscape : Byte := 0x7A

/-- FREE VALUE (log 3). R49 lets the abort sequence depend on the byte that the transmitter is placing on
the line at the abort, which depends on timing below the model's events. Applied to the model's free-value
counter and the link; the byte meant is the result modulo the number of bytes of the frame on the line. -/
opaque abortPoint : Nat → LinkId → Nat

end Sys2Proof.Config
end

