-- ==== Sys2Proof/Machine/State.lean ====
section
/-! DEFINITION. The state of the part as plain data: every register, record, list, count, flag and timer the
data sheet names, the queue of waiting commands, and the state at the release of the pin reset. -/

namespace Sys2Proof.Machine

/-- A running timer: the ticks counted since its start and the duration in microseconds it was started with,
which it holds (R167). -/
structure Countdown where
  elapsed : Nat
  duration : Nat
  deriving DecidableEq, Repr

/-- The age count of a queued record and the ticks taken since the record joined (R71, R167). -/
structure AgeCount where
  count : Nat
  ticks : Nat
  deriving DecidableEq, Repr

/-! ### Tags (R1, R2) -/

inductive TagState where
  | free
  | queued
  | await
  | resend
  | deferred
  | ready
  | complete
  deriving DecidableEq, Repr

/-- The kind of a non-posted request. -/
inductive ReqKind where
  | read
  | writeConfirmed
  deriving DecidableEq, Repr

/-- A completion status (R20). -/
inductive Status where
  | ok
  | remoteFault
  | timeout
  | busy
  | linkStopped
  | linkDown
  | partnerReset
  deriving DecidableEq, Repr

/-- The result of an ended request; absent fields are none (R1). -/
structure Result where
  status : Status
  faultCode : Option (BitVec 4)
  readData : Option Word
  deriving DecidableEq, Repr

/-- A tag holds one timer at a time (R1). -/
inductive TagTimer where
  | stopped
  | reply (c : Countdown)
  | retryDelay (c : Countdown)
  deriving DecidableEq, Repr

/-- A tag record (R1). -/
structure Tag where
  state : TagState
  gen : Gen
  kind : ReqKind
  link : LinkId
  station : StationId
  hostAddr : Addr
  remoteAddr : Addr
  writeData : Option Word
  attempts : Nat
  timeouts : Nat
  busy : Nat
  timer : TagTimer
  result : Option Result
  deriving DecidableEq, Repr

/-! ### Queue records -/

/-- A completion record (R72) with its age count (R71). -/
structure CplRecord where
  index : TagId
  gen : Gen
  kind : ReqKind
  status : Status
  faultCode : Option (BitVec 4)
  link : LinkId
  station : StationId
  hostAddr : Addr
  remoteAddr : Addr
  readData : Option Word
  attempts : Nat
  busy : Nat
  age : AgeCount
  deriving DecidableEq, Repr

/-- An event record with its age count (R108). -/
structure EvtRecord where
  link : LinkId
  station : StationId
  code : Byte
  payload : Word
  lostBefore : Nat
  time : Word
  age : AgeCount
  deriving DecidableEq, Repr

/-! ### Posted writes and the transmit queue (R29, R52) -/

/-- A posted write as the transmit queue holds it (R29). -/
structure Posted where
  station : StationId
  remoteAddr : Addr
  data : Word
  hostAddr : Addr
  deriving DecidableEq, Repr

/-- An entry of a transmit queue: a posted write, or a reference to a QUEUED tag (R29). -/
inductive QEntry where
  | posted (p : Posted)
  | ref (tag : TagId)
  deriving DecidableEq, Repr

/-- An entry of a replay list: a posted write with the sequence number of its first transmission (R52). -/
structure ReplayEntry where
  seq : Seq
  write : Posted
  deriving DecidableEq, Repr

/-- A replay pass: none, or in progress with the next entry to send, if any (R52). -/
inductive ReplayPass where
  | none
  | active (position : Option Seq)
  deriving DecidableEq, Repr

/-! ### The transmitter (R37) -/

/-- A frame that the bridge sends, as built at its pick (R132). -/
inductive TxFrame where
  | hello
  | helloAck
  | pause
  | resume
  | wr (seq : Seq) (station : StationId) (remote : Addr) (data : Word)
  | wrc (tag : TagId) (gen : Gen) (station : StationId) (remote : Addr) (data : Word)
  | rd (tag : TagId) (gen : Gen) (station : StationId) (remote : Addr)
  deriving DecidableEq, Repr

/-- The claimant that a frame on the line was picked from (R39, R42). A frame of the queue head remembers
whether its entry is still in the transmit queue (R4, R32, R33). -/
inductive Source where
  | control
  | pass
  | resend
  | queueHead (held : Bool)
  deriving DecidableEq, Repr

/-- The transmitter: IDLE, SENDING, or ABORTING with what the abort still places on the line after the byte
at which it was taken (R37, R49). -/
inductive Transmitter where
  | idle
  | sending (frame : TxFrame) (source : Source)
  | aborting (rest : List Byte)
  deriving DecidableEq, Repr

/-- A pause frame in the control-frame slot, or in its record of the last one sent (R43). -/
inductive PauseSlot where
  | none
  | pause
  | resume
  deriving DecidableEq, Repr

/-! ### Links -/

/-- A link state (R142). -/
inductive LinkState where
  | off
  | training
  | up
  | failed
  deriving DecidableEq, Repr

/-- A failure cause (R142). -/
inductive FailCause where
  | none
  | trainExhausted
  | replayExhausted
  | badFrames
  deriving DecidableEq, Repr

/-- The link state machine's items and the statistics it keeps (R142). -/
structure LinkControl where
  state : LinkState
  cause : FailCause
  trainAttempts : Nat
  helloTimer : Option Countdown
  discards : Nat
  firstDiscard : Option Addr
  stale : Nat
  deriving DecidableEq, Repr

/-- The per-link configuration registers and the divisor in use (R8, R44, R56, R127). -/
structure LinkConfig where
  rate : Nat
  divisor : Nat
  replyTo : Nat
  replayTo : Nat
  delay : Nat
  hold : Nat
  retryLimit : Nat
  busyLimit : Nat
  replayLimit : Nat
  deriving DecidableEq, Repr

/-- What the scheduler of a link holds (R51). -/
structure Scheduler where
  tx : Transmitter
  txq : List QEntry
  resend : List TagId
  ready : List TagId
  pendingPause : PauseSlot
  helloAckPending : Bool
  lastPause : PauseSlot
  helloDue : Bool
  outPause : Bool
  holdTimer : Option Countdown
  deriving DecidableEq, Repr

/-- The posted-write state of a link (R52). -/
structure PostedState where
  nextSeq : Seq
  replay : List ReplayEntry
  timer : Option Countdown
  pass : ReplayPass
  attempts : Nat
  duplicates : Nat
  deriving DecidableEq, Repr

/-- The Event Unit's items of a link (R107). -/
structure EventSide where
  count : Nat
  lost : Nat
  paused : Bool
  pauseRepeat : Nat
  deriving DecidableEq, Repr

/-- A framing state (R134). -/
inductive Framing where
  | hunting
  | inFrame
  | escaped
  deriving DecidableEq, Repr

/-- The receiver of a link (R134, R139, R140). -/
structure Receiver where
  framing : Framing
  kept : List Byte
  byteCount : Nat
  badMark : Bool
  consecutiveBad : Nat
  badFrames : Nat
  deriving DecidableEq, Repr

/-- One Link Controller with its Event Unit items. -/
structure Link where
  ctl : LinkControl
  cfg : LinkConfig
  sch : Scheduler
  pst : PostedState
  evs : EventSide
  rcv : Receiver
  deriving DecidableEq, Repr

/-! ### Host side -/

/-- The access of a directed window (R84). -/
inductive Access where
  | readWrite
  | readOnly
  deriving DecidableEq, Repr

/-- A directed window (R84). -/
structure DirWindow where
  enable : Bool
  base : Addr
  exp : Nat
  link : LinkId
  station : StationId
  remap : Addr
  access : Access
  deriving DecidableEq, Repr

/-- The striped window (R85). -/
structure StripedWindow where
  enable : Bool
  base : Addr
  exp : Nat
  shift : Nat
  deriving DecidableEq, Repr

/-- The outcome of an issue attempt (R95). -/
inductive IssueOutcome where
  | none
  | accepted
  | badKind
  | noTarget
  | protectedTarget
  | linkNotUp
  | queueFull
  | noTag
  deriving DecidableEq, Repr

/-- ISSUE_RESULT; the window is 0 to 7, 8 for WS, or none (R101). -/
structure IssueResult where
  outcome : IssueOutcome
  window : Option (Fin 9)
  link : Option LinkId
  tag : Option (TagId × Gen)
  deriving DecidableEq, Repr

/-- The outcome of a link command (R144). -/
inductive CmdOutcome where
  | none
  | taken
  | ignored
  | badCommand
  deriving DecidableEq, Repr

/-- The command that LINK_CMD_RESULT names; `other` reads 0 (R164). -/
inductive CmdCode where
  | other
  | start
  | stop
  deriving DecidableEq, Repr

/-- LINK_CMD_RESULT (R164). -/
structure CmdResult where
  outcome : CmdOutcome
  command : CmdCode
  link : LinkId
  deriving DecidableEq, Repr

/-- The host bus as the part sees it (R174): the levels of the three strobes, true for high, and the word that the
part drives on D15 to D0, none while it drives nothing. -/
structure HostBus where
  csN : Bool
  rdN : Bool
  wrN : Bool
  driven : Option Word
  deriving DecidableEq, Repr

/-- The part. `inReset` is RESET_N low. `sticky` holds the sticky bits of INT_STATUS at their positions; the
level bits are functions of the queues (R168). `freeCount` is the model's own: it numbers the free values
(log 3). `pending` is the queue of waiting commands, first in first out. -/
structure State where
  inReset : Bool
  usCount : Word
  raddrH : Byte
  raddrL : Word
  wdata : Word
  streamAddr : Addr
  issueResult : IssueResult
  winSelect : Fin 9
  windows : Vector DirWindow 8
  striped : StripedWindow
  linkSelect : LinkId
  cmdResult : CmdResult
  sticky : Word
  intEnable : Word
  tags : Vector Tag 32
  cq : List CplRecord
  cqTrigger : Nat
  cqAge : Nat
  eq : List EvtRecord
  eqTrigger : Nat
  eqAge : Nat
  highThreshold : Nat
  lowThreshold : Nat
  repeatK : Nat
  links : Vector Link 4
  bus : HostBus
  freeCount : Nat
  pending : List Instr
  deriving DecidableEq, Repr

/-- No event of the part stops it: every command is taken, ignored or refused by a rule that says what
changes, so there is no fault. -/
inductive Fault where
  deriving DecidableEq, Repr

/-- Why a command has no meaning in this model. -/
inductive Refusal where
  /-- Raised by an arm of `exec` whose command is not modelled yet (safe). No arm raises it. -/
  | notModelled (mnemonic : String)
  deriving DecidableEq, Repr

/-! ### Values that operations pass to one another -/

/-- A good frame as its fields are read (R133): the header's station and every further body byte. -/
inductive RxFrame where
  | hello (station : StationId) (version : Byte)
  | helloAck (station : StationId) (version : Byte)
  | ackp (station : StationId) (second : Byte)
  | done (station : StationId) (tag : Byte)
  | data (station : StationId) (tag : Byte) (word : Word)
  | retry (station : StationId) (tag : Byte)
  | fault (station : StationId) (tag : Byte) (code : Byte)
  | evt (station : StationId) (code : Byte) (payload : Word)
  | pause (station : StationId) (second : Byte)
  | resume (station : StationId) (second : Byte)
  deriving DecidableEq, Repr

/-- A final answer with what it carries beside the tag (R11). -/
inductive FinalAnswer where
  | done
  | data (word : Word)
  | fault (code : Byte)
  deriving DecidableEq, Repr

/-- The class of an ACKP (R57). -/
inductive AckClass where
  | progress (k : Nat)
  | duplicate
  | outOfWindow
  deriving DecidableEq, Repr

/-- The kind of an issue attempt (R97). -/
inductive IssueKind where
  | write
  | writeConfirmed
  | read
  deriving DecidableEq, Repr

/-- The result of a decode that hits: the chosen window (8 for WS) and the target (R88). -/
structure Target where
  window : Fin 9
  link : LinkId
  station : StationId
  remoteAddr : Addr
  access : Access
  deriving DecidableEq, Repr

/-- A strobe of the host bus (R174). -/
inductive Strobe where
  /-- CS_N -/
  | cs
  /-- RD_N -/
  | rd
  /-- WR_N -/
  | wr
  deriving DecidableEq, Repr

/-- What the levels of the strobes are to the part (R174). -/
inductive BusCycle where
  | read
  | write
  | noEvent
  deriving DecidableEq, Repr

/-! ### Pin-reset values -/

/-- A tag after pin reset (R27). -/
def Tag.pinReset : Tag :=
  { state := .free, gen := 0, kind := .read, link := 0, station := 0, hostAddr := 0, remoteAddr := 0,
    writeData := none, attempts := 0, timeouts := 0, busy := 0, timer := .stopped, result := none }

/-- The link state machine's items after pin reset (R163). -/
def LinkControl.pinReset : LinkControl :=
  { state := .off, cause := .none, trainAttempts := 0, helloTimer := none, discards := 0,
    firstDiscard := none, stale := 0 }

/-- The configuration defaults of a link (R163). -/
def LinkConfig.pinReset : LinkConfig :=
  { rate := 4, divisor := 4, replyTo := 16, replayTo := 16, delay := 8, hold := 40, retryLimit := 3,
    busyLimit := 16, replayLimit := 4 }

/-- The scheduler after pin reset (R50, R51). -/
def Scheduler.pinReset : Scheduler :=
  { tx := .idle, txq := [], resend := [], ready := [], pendingPause := .none, helloAckPending := false,
    lastPause := .none, helloDue := false, outPause := false, holdTimer := none }

/-- The posted-write state after either reset, a flush and an entry into UP (R68, R69). -/
def PostedState.clear : PostedState :=
  { nextSeq := 0, replay := [], timer := none, pass := .none, attempts := 0, duplicates := 0 }

/-- The Event Unit's items of a link after either reset (R125). -/
def EventSide.clear : EventSide :=
  { count := 0, lost := 0, paused := false, pauseRepeat := 0 }

/-- The receiver after either reset (R141). -/
def Receiver.clear : Receiver :=
  { framing := .hunting, kept := [], byteCount := 0, badMark := false, consecutiveBad := 0, badFrames := 0 }

/-- A link after pin reset. -/
def Link.pinReset : Link :=
  { ctl := .pinReset, cfg := .pinReset, sch := .pinReset, pst := .clear, evs := .clear, rcv := .clear }

/-- A directed window after pin reset (R94). -/
def DirWindow.pinReset : DirWindow :=
  { enable := false, base := 0, exp := 8, link := 0, station := 0, remap := 0, access := .readWrite }

/-- The striped window after pin reset (R94). -/
def StripedWindow.pinReset : StripedWindow :=
  { enable := false, base := 0, exp := 24, shift := 8 }

/-- ISSUE_RESULT after either reset: NONE, window 15, every other field 0 (R101). -/
def IssueResult.clear : IssueResult :=
  { outcome := .none, window := none, link := none, tag := none }

/-- LINK_CMD_RESULT after either reset: it reads 0 (R162, R163). -/
def CmdResult.clear : CmdResult :=
  { outcome := .none, command := .other, link := 0 }

/-- The host bus with no access in progress: every strobe high and nothing driven (R174). -/
def HostBus.idle : HostBus := { csN := true, rdN := true, wrN := true, driven := none }

/-- The part as it leaves the pin reset (R180), with no command waiting and no host access in progress (log 19). -/
def State.reset : State :=
  { inReset := false, usCount := 0, raddrH := 0, raddrL := 0, wdata := 0, streamAddr := 0,
    issueResult := .clear, winSelect := 0, windows := Vector.replicate 8 .pinReset, striped := .pinReset,
    linkSelect := 0, cmdResult := .clear, sticky := 0, intEnable := 0,
    tags := Vector.replicate 32 .pinReset, cq := [], cqTrigger := 1, cqAge := 0, eq := [], eqTrigger := 1,
    eqAge := 0, highThreshold := 24, lowThreshold := 8, repeatK := 4,
    links := Vector.replicate 4 .pinReset, bus := .idle, freeCount := 0, pending := [] }

end Sys2Proof.Machine
end

