-- ==== Sys2Proof/Machine/AddressDecode.lean ====
section
/-! DEFINITION. The Address Decoder: matching and translation by the window table (R86, R87, R88). -/

namespace Sys2Proof.Machine

/-- The bits below position e, all set; e = 24 gives every bit of an address. -/
def lowMask (e : Nat) : Addr := (1 <<< e) - 1

/-- A directed window matches an address (R86). -/
def DirWindow.hits (w : DirWindow) (a : Addr) : Bool :=
  w.enable && a >>> w.exp == w.base >>> w.exp

/-- The remote address a directed window gives (R86). -/
def DirWindow.translate (w : DirWindow) (a : Addr) : Addr :=
  (w.remap &&& ~~~(lowMask w.exp)) ||| (a &&& lowMask w.exp)

/-- The selecting bits of WS lie outside its block (R87, R93). -/
def StripedWindow.invalid (w : StripedWindow) : Bool := decide (w.exp < w.shift + 5)

/-- The striped window matches an address (R87). -/
def StripedWindow.hits (w : StripedWindow) (a : Addr) : Bool :=
  w.enable && !w.invalid && a >>> w.exp == w.base >>> w.exp

/-- The link that WS takes from an address (R87). -/
def StripedWindow.linkOf (w : StripedWindow) (a : Addr) : LinkId :=
  ⟨(a >>> w.shift).toNat % 4, Nat.mod_lt _ (by decide)⟩

/-- The station that WS takes from an address (R87). -/
def StripedWindow.stationOf (w : StripedWindow) (a : Addr) : StationId :=
  ⟨(a >>> (w.shift + 2)).toNat % 8, Nat.mod_lt _ (by decide)⟩

/-- The target of an address decoded by directed window k (R86). -/
def directedTarget (s : State) (k : Fin 8) (a : Addr) : Target :=
  let w := s.windows[k]
  { window := ⟨k.val, Nat.lt_succ_of_lt k.isLt⟩, link := w.link, station := w.station,
    remoteAddr := w.translate a, access := w.access }

/-- The target of an address decoded by WS (R87); its access is READ_WRITE (R85). -/
def stripedTarget (s : State) (a : Addr) : Target :=
  { window := 8, link := s.striped.linkOf a, station := s.striped.stationOf a, remoteAddr := a,
    access := .readWrite }

/-- The decode of an address: the lowest-numbered directed window that matches, else WS, else a miss
(R88). -/
def decode (s : State) (a : Addr) : Option Target :=
  match (List.finRange 8).find? (fun k => s.windows[k].hits a) with
  | some k => some (directedTarget s k a)
  | none => if s.striped.hits a then some (stripedTarget s a) else none

end Sys2Proof.Machine
end

