-- ==== Sys2Proof/Machine/Flags.lean ====
section
/-! DEFINITION. The conditions and flags: the CQ and EQ level conditions (R80, R81, R115), INT_STATUS and its
sticky bits (R168, R169), and the INT pin (R172). -/

namespace Sys2Proof.Machine

/-- The age part of the CQ condition (R80). -/
def cqAged (s : State) : Bool :=
  match s.cq with
  | [] => false
  | r :: _ => decide (s.cqAge ≠ 0) && decide (s.cqAge ≤ r.age.count)

/-- The CQ level condition (R81). -/
def cqCondition (s : State) : Bool :=
  !s.cq.isEmpty && (decide (s.cqTrigger ≤ s.cq.length) || cqAged s)

/-- The age part of the EQ condition (R115). -/
def eqAged (s : State) : Bool :=
  match s.eq with
  | [] => false
  | r :: _ => decide (s.eqAge ≠ 0) && decide (s.eqAge ≤ r.age.count)

/-- The EQ level condition (R115). -/
def eqCondition (s : State) : Bool :=
  !s.eq.isEmpty && (decide (s.eqTrigger ≤ s.eq.length) || eqAged s)

/-- LINK_CHANGE[n] (R168). -/
def linkChangeBit (l : LinkId) : Word := 1 <<< l.val

/-- The CQ bit (R168). -/
def cqBit : Word := 0x0100

/-- The EQ bit (R168). -/
def eqBit : Word := 0x0200

/-- EVENT_DROP (R168). -/
def eventDropBit : Word := 0x1000

/-- CONFIG_ERROR (R168). -/
def configErrorBit : Word := 0x2000

/-- ISSUE_REFUSED (R168). -/
def issueRefusedBit : Word := 0x4000

/-- The positions of the sticky bits (R168, R170). -/
def stickyMask : Word := 0x700F

/-- The nine positions of INT_STATUS and INT_ENABLE (R168, R171). -/
def enableMask : Word := 0x730F

/-- A cause sets its sticky bit, or leaves it set (R169). -/
def State.raiseBit (s : State) (bit : Word) : State := { s with sticky := s.sticky ||| bit }

/-- INT_STATUS: the sticky bits as held and the level bits as their conditions stand (R168). -/
def intStatus (s : State) : Word :=
  s.sticky ||| (if cqCondition s then cqBit else 0) ||| (if eqCondition s then eqBit else 0)

/-- INT is asserted while some bit of INT_STATUS and its enable bit are both set (R172). -/
def intAsserted (s : State) : Bool := decide (intStatus s &&& s.intEnable ≠ 0)

/-- The level of the INT_N pin: low while INT is asserted (R172), and high in reset (R180). -/
def State.intN (s : State) : Bool := s.inReset || !intAsserted s

end Sys2Proof.Machine
end

