-- ==== Sys2Proof/Machine/Frames.lean ====
section
/-! DEFINITION. Link frames and line coding: the body of each frame the bridge sends (R131, R132), the CRC
(R130), stuffing (R129), the bytes, bits and clock periods of a frame on the line (R126, R128, R37), what an
abort still places on the line (R49), the receiver's framing (R134, R135) and the judgement of a closed
frame (R136, R133). -/

namespace Sys2Proof.Machine

/-! ### Bytes and bits -/

/-- The bits of a byte, most significant first. -/
def bitsMsbFirst (b : Byte) : List Bool :=
  [b.getLsbD 7, b.getLsbD 6, b.getLsbD 5, b.getLsbD 4, b.getLsbD 3, b.getLsbD 2, b.getLsbD 1, b.getLsbD 0]

/-- The two bytes of a word, high byte first (R131). -/
def wordBytes (w : Word) : List Byte := [w.extractLsb' 8 8, w.extractLsb' 0 8]

/-- The three bytes of an address, most significant first (R131). -/
def addrBytes (a : Addr) : List Byte := [a.extractLsb' 16 8, a.extractLsb' 8 8, a.extractLsb' 0 8]

/-- The word of two received bytes, high byte first (R131). -/
def wordOfBytes (hi lo : Byte) : Word := hi ++ lo

/-- The ten levels of a byte on the line, mark as true: a start bit at space, the data bits least
significant first, a stop bit at mark (R126). -/
def lineBits (b : Byte) : List Bool := false :: (bitsMsbFirst b).reverse ++ [true]

/-- The byte that a receiver takes from the ten sampled levels; the level of the stop bit is not checked
(R126). -/
def sampledByte (levels : List Bool) : Byte :=
  BitVec.ofNat 8 (((levels.drop 1).take 8).foldr (fun bit n => bit.toNat + 2 * n) 0)

/-! ### CRC and stuffing -/

/-- One bit taken into the CRC register (R130). -/
def crcBit (reg : Word) (bit : Bool) : Word :=
  if reg.msb != bit then (reg <<< 1) ^^^ 0x1021 else reg <<< 1

/-- One body byte taken into the CRC register, most significant bit first (R130). -/
def crcByte (reg : Word) (b : Byte) : Word := (bitsMsbFirst b).foldl crcBit reg

/-- The CRC of a body: preset 0xFFFF, no final inversion (R130). -/
def crc (body : List Byte) : Word := body.foldl crcByte 0xFFFF

/-- The body followed by its CRC, high byte first (R130). -/
def withCrc (body : List Byte) : List Byte := body ++ wordBytes (crc body)

/-- A body or CRC byte as it goes on the line (R129). -/
def stuff (b : Byte) : List Byte :=
  if b = Config.flagByte ∨ b = Config.escapeByte then [Config.escapeByte, b ^^^ 0x20] else [b]

/-- A frame on the line: opening flag, stuffed body and CRC, closing flag (R128). -/
def frameOnLine (body : List Byte) : List Byte :=
  Config.flagByte :: (withCrc body).flatMap stuff ++ [Config.flagByte]

/-! ### Frames the bridge sends -/

/-- The header byte: kind in bits 7 to 4, bit 3 clear, station in bits 2 to 0 (R131). -/
def headerByte (kind : Nat) (station : StationId) : Byte := BitVec.ofNat 8 (16 * kind + station.val)

/-- The tag byte: bit 7 clear, generation in bits 6 to 5, index in bits 4 to 0 (R131). -/
def tagByte (tag : TagId) (gen : Gen) : Byte := BitVec.ofNat 8 (32 * gen.toNat + tag.val)

/-- The body of a frame, from the state its owner held at the pick (R131, R132). -/
def frameBody : TxFrame → List Byte
  | .hello => [headerByte 1 0, 1]
  | .helloAck => [headerByte 2 0, 1]
  | .wr seq station remote data =>
    [headerByte 3 station, BitVec.ofNat 8 seq.toNat] ++ addrBytes remote ++ wordBytes data
  | .wrc tag gen station remote data =>
    [headerByte 4 station, tagByte tag gen] ++ addrBytes remote ++ wordBytes data
  | .rd tag gen station remote => [headerByte 5 station, tagByte tag gen] ++ addrBytes remote
  | .pause => [headerByte 12 0, 0]
  | .resume => [headerByte 13 0, 0]

/-- The bytes of a frame on the line (R128, R132). -/
def lineBytes (f : TxFrame) : List Byte := frameOnLine (frameBody f)

/-- A bit time in periods of the 50 MHz clock (R126). -/
def bitClocks (divisor : Nat) : Nat := 4 * divisor

/-- The time a run of bytes takes on the line, in periods of the 50 MHz clock: ten bit times for each byte
(R37). -/
def lineClocks (divisor : Nat) (bytes : List Byte) : Nat := 10 * bitClocks divisor * bytes.length

/-- What an abort places on the line after the byte at position `point` of the frame (R49): nothing after
the closing flag, a flag after an escape byte, an escape and a flag after every other byte. -/
def abortRest (f : TxFrame) (point : Nat) : List Byte :=
  let bytes := lineBytes f
  if point + 1 = bytes.length then []
  else if bytes[point]? = some Config.escapeByte then [Config.flagByte]
  else [Config.escapeByte, Config.flagByte]

/-- The bytes that the transmitter places on the line in its present state; none is mark (R37, R50). -/
def txBytes : Transmitter → List Byte
  | .idle => []
  | .sending f _ => lineBytes f
  | .aborting rest => rest

/-! ### The receiver -/

/-- HUNTING with nothing kept (R141). -/
def Receiver.hunt (r : Receiver) : Receiver :=
  { r with framing := .hunting, kept := [], byteCount := 0, badMark := false }

/-- A frame opens (R134). -/
def Receiver.openFrame (r : Receiver) : Receiver :=
  { r with framing := .inFrame, kept := [], byteCount := 0, badMark := false }

/-- A byte is appended: counted, and kept while fewer than nine are kept (R134). -/
def Receiver.append (r : Receiver) (b : Byte) : Receiver :=
  { r with
    framing := .inFrame
    kept := if r.kept.length < Config.keptBytes then r.kept ++ [b] else r.kept
    byteCount := r.byteCount + 1 }

/-- A frame holds something when its byte count is 1 or more or its bad mark is set (R134). -/
def Receiver.holds (r : Receiver) : Bool := decide (1 ≤ r.byteCount) || r.badMark

/-- The byte closes the frame (R134). -/
def Receiver.closes (r : Receiver) (b : Byte) : Bool :=
  r.framing == .inFrame && b == Config.flagByte && r.holds

/-- The byte aborts the frame (R135). -/
def Receiver.aborts (r : Receiver) (b : Byte) : Bool :=
  r.framing == .escaped && b == Config.flagByte

/-- The receiver after a byte, by framing state, for every row of R134's table. -/
def Receiver.take (r : Receiver) (b : Byte) : Receiver :=
  match r.framing with
  | .hunting => if b = Config.flagByte then r.openFrame else r
  | .inFrame =>
    if b = Config.flagByte then (if r.holds then r.hunt else r)
    else if b = Config.escapeByte then { r with framing := .escaped }
    else r.append b
  | .escaped =>
    if b = Config.stuffedFlag then r.append Config.flagByte
    else if b = Config.stuffedEscape then r.append Config.escapeByte
    else if b = Config.flagByte then r.hunt
    else { r with framing := .inFrame, badMark := true }

/-- The body and CRC length of a kind that a station may send (R131); none for the kinds that R136 calls
malformed whatever their length. -/
def rxLength (kind : Nat) : Option Nat :=
  match kind with
  | 1 => some 4
  | 2 => some 4
  | 6 => some 4
  | 7 => some 4
  | 8 => some 6
  | 9 => some 4
  | 10 => some 5
  | 11 => some 6
  | 12 => some 4
  | 13 => some 4
  | _ => none

/-- The kind code of a header (R131). -/
def headerKind (h : Byte) : Nat := h.toNat / 16

/-- The station field of a header (R131). -/
def headerStation (h : Byte) : StationId := ⟨h.toNat % 8, Nat.mod_lt _ (by decide)⟩

/-- The fields of a body that passed the checks of R136 (R133). -/
def readBody : List Byte → Option RxFrame
  | [h, b] =>
    let st := headerStation h
    match headerKind h with
    | 1 => some (.hello st b)
    | 2 => some (.helloAck st b)
    | 6 => some (.ackp st b)
    | 7 => some (.done st b)
    | 9 => some (.retry st b)
    | 12 => some (.pause st b)
    | 13 => some (.resume st b)
    | _ => none
  | [h, b, c] => if headerKind h = 10 then some (.fault (headerStation h) b c) else none
  | [h, b, c, d] =>
    match headerKind h with
    | 8 => some (.data (headerStation h) b (wordOfBytes c d))
    | 11 => some (.evt (headerStation h) b (wordOfBytes c d))
    | _ => none
  | _ => none

/-- The judgement of a frame at its closing flag: the good frame, or none when any item of R136 holds. -/
def Receiver.judge (r : Receiver) : Option RxFrame :=
  match r.kept with
  | [] => none
  | h :: _ =>
    let body := r.kept.take (r.byteCount - 2)
    if r.badMark then none
    else if rxLength (headerKind h) ≠ some r.byteCount then none
    else if h.getLsbD 3 then none
    else if r.kept.drop (r.byteCount - 2) ≠ wordBytes (crc body) then none
    else readBody body

/-- The body of a frame that a station sends (R131): the header with bit 3 clear, then the further bytes. -/
def stationBody : RxFrame → List Byte
  | .hello st version => [headerByte 1 st, version]
  | .helloAck st version => [headerByte 2 st, version]
  | .ackp st second => [headerByte 6 st, second]
  | .done st tag => [headerByte 7 st, tag]
  | .data st tag word => [headerByte 8 st, tag] ++ wordBytes word
  | .retry st tag => [headerByte 9 st, tag]
  | .fault st tag code => [headerByte 10 st, tag, code]
  | .evt st code payload => [headerByte 11 st, code] ++ wordBytes payload
  | .pause st second => [headerByte 12 st, second]
  | .resume st second => [headerByte 13 st, second]

/-- The tag index that a tag byte carries; bit 7 is ignored (R133). -/
def tagOfByte (b : Byte) : TagId := ⟨b.toNat % 32, Nat.mod_lt _ (by decide)⟩

/-- The generation that a tag byte carries (R131, R133). -/
def genOfByte (b : Byte) : Gen := b.extractLsb' 5 2

/-- The next expected seq of an ACKP: bits 5 to 0 of its second byte (R133). -/
def seqOfByte (b : Byte) : Seq := b.extractLsb' 0 6

end Sys2Proof.Machine
end

