-- ==== Sys2Proof/Machine/Ops.lean ====
section
/-! DEFINITION. The shared operations: reading and writing tags and links, timers and age counts, the
scheduler's pick (R38 to R43), re-entry from the ready-deferred list (R31), completion (R20), abort (R49),
flush (R157), failure (R154), entry into UP (R152), the asks to the control-frame slot (R119, R120) and the
replay pass (R62, R63). -/

namespace Sys2Proof.Machine

/-! ### Tables -/

/-- A table with every element changed by one function. -/
def mapTable {α : Type} {n : Nat} (f : α → α) (v : Vector α n) : Vector α n :=
  ⟨⟨v.toList.map f⟩, by simp⟩

/-- The tag record at an index. -/
def State.tag (s : State) (i : TagId) : Tag := s.tags[i]

/-- A tag record replaced. -/
def State.setTag (s : State) (i : TagId) (t : Tag) : State := { s with tags := s.tags.set i t }

/-- A link. -/
def State.link (s : State) (l : LinkId) : Link := s.links[l]

/-- A link replaced. -/
def State.setLink (s : State) (l : LinkId) (k : Link) : State := { s with links := s.links.set l k }

/-- A link changed by a function. -/
def State.onLink (s : State) (l : LinkId) (f : Link → Link) : State := s.setLink l (f (s.link l))

/-- One more on a count that stops at its largest value. -/
def bump (limit n : Nat) : Nat := min limit (n + 1)

/-! ### Timers and age counts (R167) -/

/-- A timer started, or restarted, with a duration in microseconds. -/
def startTimer (us : Nat) : Countdown := { elapsed := 0, duration := us }

/-- A tick counted by a running timer; the count stops at the tick that brings the expiry. -/
def Countdown.tick (c : Countdown) : Countdown :=
  { c with elapsed := min (c.duration + 1) (c.elapsed + 1) }

/-- The timer has reached the (duration + 1)th tick after its start, so its expiry is taken (R167). -/
def Countdown.due (c : Countdown) : Bool := decide (c.duration < c.elapsed)

/-- A timer that may be stopped is due. -/
def timerDue : Option Countdown → Bool
  | some c => c.due
  | none => false

/-- A tick counted by the timer of a tag. -/
def TagTimer.tick : TagTimer → TagTimer
  | .stopped => .stopped
  | .reply c => .reply c.tick
  | .retryDelay c => .retryDelay c.tick

/-- The age count of a record that has just joined its queue (R71, R108). -/
def AgeCount.fresh : AgeCount := { count := 0, ticks := 0 }

/-- A tick counted for an age count; the count of ticks stops where the 255th increment is due. -/
def AgeCount.tick (a : AgeCount) : AgeCount :=
  { a with ticks := min (Config.ageUnit * Config.byteMax + 1) (a.ticks + 1) }

/-- The next increment of an age count is due: the (16 n + 1)th tick has been taken, n being the count that
the increment brings, and the count has not stopped at 255 (R167). -/
def AgeCount.due (a : AgeCount) : Bool :=
  decide (a.count < Config.byteMax) && decide (Config.ageUnit * (a.count + 1) + 1 ≤ a.ticks)

/-- The increment of an age count, stopping at 255 (R167). -/
def AgeCount.increment (a : AgeCount) : AgeCount := { a with count := bump Config.byteMax a.count }

/-! ### Tags -/

/-- The tag is in a state from which a flush completes it (R23). -/
def Tag.inFlight (t : Tag) : Bool :=
  match t.state with
  | .free => false
  | .complete => false
  | .queued => true
  | .await => true
  | .resend => true
  | .deferred => true
  | .ready => true

/-- TAGS_IN_USE: the number of tags not in FREE (R2, R106). -/
def tagsInUse (s : State) : Nat := s.tags.toList.countP (fun t => decide (t.state ≠ .free))

/-- The lowest-numbered tag in FREE (R3). -/
def lowestFree (s : State) : Option TagId :=
  (List.finRange 32).find? (fun i => decide ((s.tag i).state = .free))

/-- A tag at the event of its completion (R20). -/
def Tag.completed (t : Tag) (r : Result) : Tag :=
  { t with state := .complete, timer := .stopped, result := some r }

/-- A tag put in FREE by a pop or a soft reset: the result is present in COMPLETE only, every other field is
kept (R1, R22, R26; log 9). -/
def Tag.freed (t : Tag) : Tag := { t with state := .free, timer := .stopped, result := none }

/-- The completion record built from a tag at its completion (R20, R72). -/
def recordOf (i : TagId) (t : Tag) (r : Result) : CplRecord :=
  { index := i, gen := t.gen, kind := t.kind, status := r.status, faultCode := r.faultCode, link := t.link,
    station := t.station, hostAddr := t.hostAddr, remoteAddr := t.remoteAddr, readData := r.readData,
    attempts := t.attempts, busy := t.busy, age := .fresh }

/-- A result with no fault code and no read data. -/
def plainResult (status : Status) : Result := { status := status, faultCode := none, readData := none }

/-! ### The scheduler -/

/-- The replay list holds a posted write for the station (R35). -/
def Link.holdsBack (k : Link) (st : StationId) : Bool :=
  k.pst.replay.any (fun e => decide (e.write.station = st))

/-- The frame of a request, built from its tag record (R29, R132). -/
def requestFrame (i : TagId) (t : Tag) : TxFrame :=
  match t.kind with
  | .read => .rd i t.gen t.station t.remoteAddr
  | .writeConfirmed => .wrc i t.gen t.station t.remoteAddr (t.writeData.getD 0)

/-- The WR frame of a posted write (R53, R63). -/
def writeFrame (seq : Seq) (p : Posted) : TxFrame := .wr seq p.station p.remoteAddr p.data

/-- The transmitter of a link takes a frame. -/
def Link.send (k : Link) (f : TxFrame) (src : Source) : Link :=
  { k with sch := { k.sch with tx := .sending f src } }

/-- The entry a pass is to send next, with the position that follows it in the list (R63). -/
def Link.passEntry (k : Link) : Option (ReplayEntry × Option Seq) :=
  match k.pst.pass with
  | .active (some q) =>
    match k.pst.replay.dropWhile (fun e => decide (e.seq ≠ q)) with
    | e :: rest => some (e, rest.head?.map (·.seq))
    | [] => none
  | .active none => none
  | .none => none

/-- The tag of the resend order that a pick takes: the earliest whose station is not held back (R40). -/
def resendChoice (tags : Vector Tag 32) (k : Link) : Option TagId :=
  k.sch.resend.find? (fun i => !k.holdsBack tags[i].station)

/-- The frame of the transmit-queue head when its own condition holds (R35, R36, R39, R53). -/
def headFrame (tags : Vector Tag 32) (k : Link) : Option TxFrame :=
  match k.sch.txq with
  | [] => none
  | .posted p :: _ =>
    if k.pst.replay.length < Config.replayCapacity ∧ k.pst.pass = .none then
      some (writeFrame k.pst.nextSeq p)
    else none
  | .ref i :: _ => if k.holdsBack tags[i].station then none else some (requestFrame i tags[i])

/-- The pick among the claimants that the outbound pause holds back: replay pass, resend order, transmit-queue
head (R39). -/
def pickTraffic (tags : Vector Tag 32) (k : Link) : Link :=
  match k.passEntry with
  | some (e, next) =>
    { k.send (writeFrame e.seq e.write) .pass with pst := { k.pst with pass := .active next } }
  | none =>
    match resendChoice tags k with
    | some i =>
      { k with sch := { k.sch with
          resend := k.sch.resend.erase i
          tx := .sending (requestFrame i tags[i]) .resend } }
    | none =>
      match headFrame tags k with
      | some f => k.send f (.queueHead true)
      | none => k

/-- The pick in UP: the control-frame slot first, its HELLO_ACK before its pause frame (R39, R43). -/
def pickUp (tags : Vector Tag 32) (k : Link) : Link :=
  if k.sch.helloAckPending then
    { k with sch := { k.sch with helloAckPending := false, tx := .sending .helloAck .control } }
  else
    match k.sch.pendingPause with
    | .pause =>
      { k with sch := { k.sch with
          pendingPause := .none, lastPause := .pause, tx := .sending .pause .control } }
    | .resume =>
      { k with sch := { k.sch with
          pendingPause := .none, lastPause := .resume, tx := .sending .resume .control } }
    | .none => if k.sch.outPause then k else pickTraffic tags k

/-- The pick in TRAINING: a HELLO that has fallen due (R42). -/
def pickTraining (k : Link) : Link :=
  if k.sch.helloDue then
    { k with sch := { k.sch with helloDue := false, tx := .sending .hello .control } }
  else k

/-- The scheduler's pick: with the transmitter IDLE, by the link state (R38, R39, R42). -/
def pick (tags : Vector Tag 32) (k : Link) : Link :=
  if k.sch.tx = .idle then
    match k.ctl.state with
    | .up => pickUp tags k
    | .training => pickTraining k
    | .off => k
    | .failed => k
  else k

/-- How many tags of the ready-deferred list the free slots of the transmit queue take (R31). -/
def Link.freeSlots (k : Link) : Nat := Config.txQueueCapacity - k.sch.txq.length

/-- The head tags of the ready-deferred list enter the transmit queue while it has a free slot (R18, R31). -/
def refill (s : State) (l : LinkId) : State :=
  let k := s.link l
  let moved := k.sch.ready.take k.freeSlots
  let entered : Link := { k with sch := { k.sch with
    txq := k.sch.txq ++ moved.map .ref
    ready := k.sch.ready.drop k.freeSlots } }
  moved.foldl (fun s i => s.setTag i { s.tag i with state := .queued }) (s.setLink l entered)

/-- The end of an event that may free a slot or make a frame eligible on a link: deferred re-entry, then the
pick, by the state as the event leaves it (R31, R38). -/
def schedule (s : State) (l : LinkId) : State :=
  let s := refill s l
  s.onLink l (pick s.tags)

/-! ### Completion and answers -/

/-- A tag taken out of the transmit queue, the resend order and the ready-deferred list of its link. A frame
of its queue entry that is on the line runs on without its entry (R12, R20, R33). -/
def Link.dropTag (i : TagId) (k : Link) : Link :=
  { k with sch := { k.sch with
      tx := match k.sch.tx with
        | .sending f (.queueHead held) =>
          .sending f (.queueHead (held && decide (k.sch.txq.head? ≠ some (.ref i))))
        | tx => tx
      txq := k.sch.txq.filter (fun e => decide (e ≠ .ref i))
      resend := k.sch.resend.filter (fun j => decide (j ≠ i))
      ready := k.sch.ready.filter (fun j => decide (j ≠ i)) } }

/-- The completion of one tag (R20). -/
def completeTag (s : State) (i : TagId) (r : Result) : State :=
  let t := s.tag i
  let s := (s.setTag i (t.completed r)).onLink t.link (Link.dropTag i)
  { s with cq := s.cq ++ [recordOf i t r] }

/-- One more stale answer on a link (R9, R61, R150). -/
def Link.countStale (k : Link) : Link :=
  { k with ctl := { k.ctl with stale := bump Config.byteMax k.ctl.stale } }

/-- The tag state takes a final answer (R10). -/
def Tag.takesFinal (t : Tag) : Bool :=
  match t.state with
  | .free => false
  | .complete => false
  | .queued => decide (1 ≤ t.attempts)
  | .await => true
  | .resend => true
  | .deferred => true
  | .ready => true

/-- The answer kind fits the tag's kind (R9). -/
def FinalAnswer.fits : FinalAnswer → ReqKind → Bool
  | .done, .writeConfirmed => true
  | .done, .read => false
  | .data _, .read => true
  | .data _, .writeConfirmed => false
  | .fault _, _ => true

/-- Generation, link and station of an answer match the tag it names (R9, tests 1 to 3). -/
def Tag.answeredBy (t : Tag) (l : LinkId) (st : StationId) (tagB : Byte) : Bool :=
  decide (t.gen = genOfByte tagB) && decide (t.link = l) && decide (t.station = st)

/-- The result that a final answer gives (R11). -/
def FinalAnswer.result : FinalAnswer → Result
  | .done => plainResult .ok
  | .data w => { status := .ok, faultCode := none, readData := some w }
  | .fault c => { status := .remoteFault, faultCode := some (c.extractLsb' 0 4), readData := none }

/-- A final answer passed to the Request Tracker (R9 to R12, R33). -/
def takeFinal (s : State) (l : LinkId) (st : StationId) (tagB : Byte) (a : FinalAnswer) : State :=
  let i := tagOfByte tagB
  let t := s.tag i
  if t.answeredBy l st tagB && a.fits t.kind && t.takesFinal then
    schedule (completeTag s i a.result) l
  else s.onLink l .countStale

/-- A RETRY passed to the Request Tracker (R9, R10, R13). -/
def takeRetry (s : State) (l : LinkId) (st : StationId) (tagB : Byte) : State :=
  let i := tagOfByte tagB
  let t := s.tag i
  if t.answeredBy l st tagB && decide (t.state = .await) then
    let t' := { t with busy := bump Config.byteMax t.busy }
    let cfg := (s.link l).cfg
    if cfg.busyLimit ≠ 255 ∧ cfg.busyLimit < t'.busy then
      completeTag (s.setTag i t') i (plainResult .busy)
    else
      s.setTag i { t' with
        state := .deferred
        timer := .retryDelay (startTimer (cfg.delay * Config.delayUnit)) }
  else s.onLink l .countStale

/-! ### Abort, flush, failure -/

/-- The next free value is named. -/
def State.nextFree (s : State) : State := { s with freeCount := s.freeCount + 1 }

/-- A transmission in progress is aborted: the byte on the line is a free value (log 3). A sequence already
on the line runs on (R49). -/
def abortTx (n : Nat) (l : LinkId) : Transmitter → Transmitter
  | .idle => .idle
  | .sending f _ => .aborting (abortRest f (Config.abortPoint n l % (lineBytes f).length))
  | .aborting rest => .aborting rest

/-- A frame on the line of a link is aborted. -/
def Link.abort (n : Nat) (l : LinkId) (k : Link) : Link :=
  { k with sch := { k.sch with tx := abortTx n l k.sch.tx } }

/-- The host addresses of the posted writes of a transmit queue, head first. -/
def queuedAddrs : List QEntry → List Addr
  | [] => []
  | .posted p :: rest => p.hostAddr :: queuedAddrs rest
  | .ref _ :: rest => queuedAddrs rest

/-- The host addresses of the posted writes that a flush discards, in order of first transmission (R158). -/
def Link.discardAddrs (k : Link) : List Addr :=
  k.pst.replay.map (fun e => e.write.hostAddr) ++ queuedAddrs k.sch.txq

/-- The posted discards of a flush counted and the first address kept (R158). -/
def LinkControl.countDiscards (c : LinkControl) (addrs : List Addr) : LinkControl :=
  { c with
    discards := min Config.byteMax (c.discards + addrs.length)
    firstDiscard := match c.firstDiscard with
      | some a => some a
      | none => addrs.head? }

/-- The part of a flush that reaches the link itself (R157): abort, discards, empty collections, control-frame
slot, outbound pause. The pending HELLO_ACK is kept or cleared. -/
def Link.flushed (n : Nat) (l : LinkId) (keepHelloAck : Bool) (k : Link) : Link :=
  { k with
    ctl := k.ctl.countDiscards k.discardAddrs
    sch := { k.sch with
      tx := abortTx n l k.sch.tx
      txq := []
      resend := []
      ready := []
      pendingPause := .none
      helloAckPending := keepHelloAck && k.sch.helloAckPending
      lastPause := .none
      outPause := false
      holdTimer := none }
    pst := .clear }

/-- The tags that the flush of a link completes, in ascending order (R23). -/
def flushTags (s : State) (l : LinkId) : List TagId :=
  (List.finRange 32).filter (fun i => decide ((s.tag i).link = l) && (s.tag i).inFlight)

/-- A tag as the flush of a link leaves it (R23). -/
def Tag.flushedOn (l : LinkId) (status : Status) (t : Tag) : Tag :=
  if t.link = l ∧ t.inFlight then t.completed (plainResult status) else t

/-- The flush of a link (R157). -/
def flush (s : State) (l : LinkId) (status : Status) (keepHelloAck : Bool) : State :=
  let records := (flushTags s l).map (fun i => recordOf i (s.tag i) (plainResult status))
  let s' := s.onLink l (Link.flushed s.freeCount l keepHelloAck)
  { s' with
    tags := mapTable (Tag.flushedOn l status) s.tags
    cq := s.cq ++ records
    freeCount := s.freeCount + 1 }

/-- The Event Unit's items of a link that leaves UP (R122). -/
def EventSide.leaveUp (e : EventSide) : EventSide := { e with paused := false, pauseRepeat := 0 }

/-- A link goes down by STOP or failure: in UP its traffic is flushed and the Event Unit's items are cleared, in
another state a frame on the line is aborted; the HELLO interval timer stops, and the HELLO-due flag and the
pending HELLO_ACK are cleared (R147, R148, R154, R155, R122). -/
def takeDown (s : State) (l : LinkId) (status : Status) : State :=
  let s :=
    if (s.link l).ctl.state = .up then
      (flush s l status false).onLink l (fun k => { k with evs := k.evs.leaveUp })
    else (s.onLink l (Link.abort s.freeCount l)).nextFree
  s.onLink l (fun k => { k with
    ctl := { k.ctl with helloTimer := none }
    sch := { k.sch with helloDue := false, helloAckPending := false } })

/-- A link enters a state, which its LINK_CHANGE bit reports (R160). -/
def enterState (s : State) (l : LinkId) (st : LinkState) : State :=
  (s.onLink l (fun k => { k with ctl := { k.ctl with state := st } })).raiseBit (linkChangeBit l)

/-- The failure of a link (R154, R155). -/
def failLink (s : State) (l : LinkId) (cause : FailCause) : State :=
  let s := takeDown s l .linkDown
  let s := s.onLink l (fun k => { k with ctl := { k.ctl with cause := cause } })
  enterState s l .failed

/-! ### The control-frame slot and entry into UP -/

/-- An ask for PAUSE (R119). -/
def Link.askPause (k : Link) : Link := { k with sch := { k.sch with pendingPause := .pause } }

/-- What an ask for RESUME leaves pending, by what is pending and what the stations last saw (R120). -/
def resumeOutcome (pending last : PauseSlot) : PauseSlot :=
  match pending, last with
  | .pause, .pause => .resume
  | .pause, .none => .none
  | .pause, .resume => .none
  | .none, .pause => .resume
  | .none, .none => .none
  | .none, .resume => .none
  | .resume, _ => .resume

/-- An ask for RESUME (R120). -/
def Link.askResume (k : Link) : Link :=
  { k with sch := { k.sch with pendingPause := resumeOutcome k.sch.pendingPause k.sch.lastPause } }

/-- The Event Unit at an entry into UP (R121). -/
def Link.enterUpEvents (low : Nat) (k : Link) : Link :=
  let k' := { k with evs := { k.evs with paused := decide (low < k.evs.count), pauseRepeat := 0 } }
  if low < k.evs.count then k'.askPause else k'

/-- The entry of a link into UP (R152, R68, R44, R43). -/
def Link.enterUp (low : Nat) (k : Link) : Link :=
  Link.enterUpEvents low { k with
    ctl := { k.ctl with helloTimer := none }
    sch := { k.sch with helloDue := false, lastPause := .none, outPause := false, holdTimer := none }
    pst := .clear }

/-- The entry event of a link into UP, from TRAINING or in place (R152, R153). -/
def enterUp (s : State) (l : LinkId) : State :=
  schedule (enterState (s.onLink l (Link.enterUp s.lowThreshold)) l .up) l

/-! ### Replay passes -/

/-- The replay timer started with the link's replay timeout (R56). -/
def Link.replayStart (k : Link) : Option Countdown :=
  some (startTimer (k.cfg.replayTo * Config.replyUnit))

/-- A pass starts at the oldest entry (R62, step 3). -/
def PostedState.startPass (p : PostedState) : PostedState :=
  { p with pass := .active (p.replay.head?.map (·.seq)), timer := none, duplicates := 0 }

/-- The ask for a replay pass: the attempt is counted, then the pass starts or the link fails (R62, R64). -/
def askPass (s : State) (l : LinkId) : State :=
  let k := s.link l
  let s := s.onLink l (fun k => { k with pst := { k.pst with attempts := k.pst.attempts + 1 } })
  if k.cfg.replayLimit < k.pst.attempts + 1 then failLink s l .replayExhausted
  else s.onLink l (fun k => { k with pst := k.pst.startPass })

/-- The end of a pass (R63). -/
def endPass (s : State) (l : LinkId) : State :=
  let k := s.link l
  let s := s.onLink l (fun k => { k with pst := { k.pst with pass := .none } })
  if k.pst.replay = [] then s
  else if k.pst.duplicates = 2 then askPass s l
  else s.onLink l (fun k => { k with pst := { k.pst with timer := k.replayStart } })

/-- The pass of a link is at its end: its position is none and no frame of it is on the line (R63). -/
def Link.passOver (k : Link) : Bool :=
  decide (k.pst.pass = .active none) &&
    match k.sch.tx with
    | .sending _ .pass => false
    | .sending _ .control => true
    | .sending _ .resend => true
    | .sending _ (.queueHead _) => true
    | .idle => true
    | .aborting _ => true

/-- The pass ends when it is over (R59, R63). -/
def endPassIfOver (s : State) (l : LinkId) : State := if (s.link l).passOver then endPass s l else s

/-- The transmitter of a link becomes free. -/
def Link.txFree (k : Link) : Link := { k with sch := { k.sch with tx := .idle } }

/-- The event has no effect while RESET_N is low (R174, R180). -/
def unlessReset (s : State) (s' : State) : Host.Outcome State Fault Refusal :=
  .next (if s.inReset then s else s')

end Sys2Proof.Machine
end

