-- ==== Sys2Proof/Machine/Operands.lean ====
section
/-! DEFINITION. The register formats (R75, R95, R112, R164, R178): fields of a written value with their
ranges, and the word that each register reads as. -/

namespace Sys2Proof.Machine

/-- The bits lo to lo + width - 1 of a word as a number. -/
def field (v : Word) (lo width : Nat) : Nat := (v.toNat >>> lo) % 2 ^ width

/-- A word with a number placed at a bit position. -/
def placed (n lo : Nat) : Word := BitVec.ofNat 16 (n <<< lo)

/-- A flag placed at a bit position. -/
def flagAt (b : Bool) (lo : Nat) : Word := if b then placed 1 lo else 0

/-- A link number of a field of two bits. -/
def linkField (v : Word) (lo : Nat) : LinkId := ⟨field v lo 2, Nat.mod_lt _ (by decide)⟩

/-- A station number of a field of three bits. -/
def stationField (v : Word) (lo : Nat) : StationId := ⟨field v lo 3, Nat.mod_lt _ (by decide)⟩

/-- Bits 23 to 16 of an address, in bits 7 to 0 (R95). -/
def addrHigh (a : Addr) : Word := (a.extractLsb' 16 8).setWidth 16

/-- Bits 15 to 0 of an address (R95). -/
def addrLow (a : Addr) : Word := a.extractLsb' 0 16

/-- An address with its high eight bits replaced (R92, R96). -/
def withHigh (a : Addr) (h : Byte) : Addr := h ++ addrLow a

/-- An address with its low sixteen bits replaced (R92, R96). -/
def withLow (a : Addr) (w : Word) : Addr := a.extractLsb' 16 8 ++ w

/-! ### Written values -/

/-- A value of 1 to 255: the range of LINK_REPLY_TO, LINK_REPLAY_TO, LINK_DELAY, LINK_HOLD and LINK_RATE
(R8, R44, R56, R127). -/
def inUnits (v : Word) : Bool := decide (1 ≤ v.toNat) && decide (v.toNat ≤ 255)

/-- LINK_LIMITS in range: bit 3 clear and a replay attempt limit of at least 1 (R8, R178). -/
def limitsInRange (v : Word) : Bool := decide (field v 3 1 = 0) && decide (1 ≤ field v 4 4)

/-- WIN_CTRL in range for a directed window (R91, R95). -/
def dirCtrlInRange (v : Word) : Bool :=
  decide (8 ≤ field v 8 5) && decide (field v 8 5 ≤ 24) && decide (field v 13 1 = 0) &&
    decide (field v 6 2 = 0) && decide (field v 3 1 = 0)

/-- The fields of a directed window written together (R91). -/
def DirWindow.withCtrl (w : DirWindow) (v : Word) : DirWindow :=
  { w with
    enable := v.getLsbD 15
    access := if v.getLsbD 14 then .readOnly else .readWrite
    exp := field v 8 5
    link := linkField v 4
    station := stationField v 0 }

/-- WIN_CTRL in range for WS (R91, R95). -/
def stripedCtrlInRange (v : Word) : Bool :=
  decide (14 ≤ field v 8 5) && decide (field v 8 5 ≤ 24) && decide (8 ≤ field v 0 5) &&
    decide (field v 0 5 ≤ 19) && decide (field v 13 2 = 0) && decide (field v 5 3 = 0)

/-- The fields of WS written together (R91). -/
def StripedWindow.withCtrl (w : StripedWindow) (v : Word) : StripedWindow :=
  { w with enable := v.getLsbD 15, exp := field v 8 5, shift := field v 0 5 }

/-- EQ_THRESH in range: high 1 to 63, low below high, the other bits 0 (R123). -/
def thresholdsInRange (v : Word) : Bool :=
  decide (1 ≤ field v 8 6) && decide (field v 0 6 < field v 8 6) && decide (field v 14 2 = 0) &&
    decide (field v 6 2 = 0)

/-- EQ_REPEAT in range (R117). -/
def repeatInRange (v : Word) : Bool := v == 1 || v == 2 || v == 4 || v == 8

/-- The directed window that a window number names; none for 8, which names WS (R90). -/
def directedIndex (n : Fin 9) : Option (Fin 8) := if h : n.val < 8 then some ⟨n.val, h⟩ else none

/-! ### Codes -/

/-- The status codes of CQ_HEAD_TAG (R75). -/
def Status.code : Status → Nat
  | .ok => 1
  | .remoteFault => 2
  | .timeout => 3
  | .busy => 4
  | .linkStopped => 5
  | .linkDown => 6
  | .partnerReset => 7

/-- The kind bit of CQ_HEAD_TAG (R75). -/
def ReqKind.code : ReqKind → Nat
  | .read => 0
  | .writeConfirmed => 1

/-- The outcome codes of ISSUE_RESULT (R95). -/
def IssueOutcome.code : IssueOutcome → Nat
  | .none => 0
  | .accepted => 1
  | .badKind => 2
  | .noTarget => 3
  | .protectedTarget => 4
  | .linkNotUp => 5
  | .queueFull => 6
  | .noTag => 7

/-- The outcome codes of LINK_CMD_RESULT (R144). -/
def CmdOutcome.code : CmdOutcome → Nat
  | .none => 0
  | .taken => 1
  | .ignored => 2
  | .badCommand => 3

/-- The command codes of LINK_CMD_RESULT (R164). -/
def CmdCode.code : CmdCode → Nat
  | .other => 0
  | .start => 1
  | .stop => 2

/-- The link states of LINK_STATUS (R164). -/
def LinkState.code : LinkState → Nat
  | .off => 0
  | .training => 1
  | .up => 2
  | .failed => 3

/-- The failure causes of LINK_STATUS (R164). -/
def FailCause.code : FailCause → Nat
  | .none => 0
  | .trainExhausted => 1
  | .replayExhausted => 2
  | .badFrames => 3

/-! ### Read values -/

/-- ISSUE_RESULT (R95); window 15 for none, absent fields 0. -/
def IssueResult.word (r : IssueResult) : Word :=
  placed r.outcome.code 13 |||
    placed (match r.window with
      | some w => w.val
      | none => 15) 9 |||
    (match r.link with
      | some l => placed l.val 7
      | none => 0) |||
    (match r.tag with
      | some (i, g) => placed g.toNat 5 ||| placed i.val 0
      | none => 0)

/-- LINK_CMD_RESULT (R164). -/
def CmdResult.word (r : CmdResult) : Word :=
  placed r.outcome.code 0 ||| placed r.command.code 4 ||| placed r.link.val 8

/-- WIN_CTRL of a directed window (R95). -/
def DirWindow.ctrlWord (w : DirWindow) : Word :=
  flagAt w.enable 15 ||| flagAt (decide (w.access = .readOnly)) 14 ||| placed w.exp 8 |||
    placed w.link.val 4 ||| placed w.station.val 0

/-- WIN_CTRL of WS (R95). -/
def StripedWindow.ctrlWord (w : StripedWindow) : Word :=
  flagAt w.enable 15 ||| placed w.exp 8 ||| placed w.shift 0

/-- WIN_STATUS (R93). -/
def winStatus (s : State) : Word :=
  flagAt s.striped.invalid 15 ||| flagAt s.striped.enable 8 |||
    (List.finRange 8).foldl (fun w k => w ||| flagAt s.windows[k].enable k.val) 0

/-- CQ_HEAD_TAG (R75). -/
def CplRecord.tagWord (r : CplRecord) : Word :=
  placed r.status.code 8 ||| placed r.kind.code 7 ||| placed r.gen.toNat 5 ||| placed r.index.val 0

/-- CQ_HEAD_ADDR_H (R75). -/
def CplRecord.addrHighWord (r : CplRecord) : Word :=
  placed r.link.val 11 ||| placed r.station.val 8 ||| addrHigh r.hostAddr

/-- CQ_HEAD_REMOTE_H (R75); an absent fault code reads 0. -/
def CplRecord.remoteHighWord (r : CplRecord) : Word :=
  placed ((r.faultCode.getD 0).toNat) 8 ||| addrHigh r.remoteAddr

/-- CQ_HEAD_COUNTS (R75). -/
def CplRecord.countsWord (r : CplRecord) : Word := placed r.busy 8 ||| placed r.attempts 0

/-- EQ_HEAD_SRC, with its valid bit (R112). -/
def EvtRecord.srcWord (r : EvtRecord) : Word :=
  placed 1 15 ||| placed r.link.val 11 ||| placed r.station.val 8 ||| placed r.lostBefore 0

/-- LINK_STATUS (R164). -/
def Link.statusWord (k : Link) : Word :=
  placed k.ctl.state.code 0 ||| placed k.ctl.cause.code 2 ||| flagAt k.sch.outPause 4 |||
    flagAt k.evs.paused 5 ||| flagAt (decide (k.pst.pass ≠ .none)) 6 |||
    flagAt k.ctl.firstDiscard.isSome 7 ||| placed k.ctl.trainAttempts 8

/-- LINK_LIMITS (R178). -/
def LinkConfig.limitsWord (c : LinkConfig) : Word :=
  placed c.busyLimit 8 ||| placed c.replayLimit 4 ||| placed c.retryLimit 0

/-- Bits 4 to 0 of LINK_OCC: the transmit-queue entries while the ready-deferred list is empty, else 16 plus
its length, at most 31 (R178). -/
def Link.queueOcc (k : Link) : Nat :=
  if k.sch.ready = [] then k.sch.txq.length else min 31 (16 + k.sch.ready.length)

/-- LINK_OCC (R178). -/
def Link.occWord (k : Link) : Word :=
  placed k.evs.count 9 ||| placed k.pst.replay.length 5 ||| placed k.queueOcc 0

/-- LINK_STAT_A (R164). -/
def Link.statAWord (k : Link) : Word := placed k.ctl.discards 8 ||| placed k.ctl.stale 0

end Sys2Proof.Machine
end

