-- ==== Sys2Proof/Machine/HostIssue.lean ====
section
/-! DEFINITION. The issue commands: ISSUE_WRITE, ISSUE_WRITE_CONFIRMED, ISSUE_READ, BAD_KIND, STREAM_DATA and
RADDR_WRITE (R96 to R105). -/

namespace Sys2Proof.Machine

/-- The address offered through ISSUE: RADDR_H and RADDR_L taken together (R97). -/
def requestAddr (s : State) : Addr := s.raddrH ++ s.raddrL

/-- ISSUE_RESULT as an attempt sets it (R101). -/
def report (s : State) (o : IssueOutcome) (t : Option Target) (tag : Option (TagId × Gen)) : State :=
  { s with issueResult :=
    { outcome := o, window := t.map (·.window), link := t.map (·.link), tag := tag } }

/-- The checks after the decode, in order: access, link, queue, tag (R97, R98). -/
def issueRefusal (s : State) (kind : IssueKind) (t : Target) : Option IssueOutcome :=
  let k := s.link t.link
  if kind ≠ .read ∧ t.access = .readOnly then some .protectedTarget
  else if k.ctl.state ≠ .up then some .linkNotUp
  else if k.freeSlots ≤ k.sch.ready.length then some .queueFull
  else if kind ≠ .write ∧ lowestFree s = none then some .noTag
  else none

/-- An entry appended at the tail of a transmit queue (R30). -/
def enqueue (s : State) (l : LinkId) (e : QEntry) : State :=
  s.onLink l (fun k => { k with sch := { k.sch with txq := k.sch.txq ++ [e] } })

/-- A posted write accepted (R99, R102). -/
def acceptPosted (s : State) (t : Target) (addr : Addr) (data : Word) : State :=
  let entry : Posted :=
    { station := t.station, remoteAddr := t.remoteAddr, data := data, hostAddr := addr }
  schedule (enqueue (report s .accepted (some t) none) t.link (.posted entry)) t.link

/-- A tag as its allocation loads it (R3). -/
def Tag.allocated (t : Tag) (kind : ReqKind) (target : Target) (addr : Addr) (data : Word) : Tag :=
  { state := .queued, gen := t.gen + 1, kind := kind, link := target.link, station := target.station,
    hostAddr := addr, remoteAddr := target.remoteAddr,
    writeData := (match kind with
      | .read => none
      | .writeConfirmed => some data),
    attempts := 0, timeouts := 0, busy := 0, timer := .stopped, result := none }

/-- A non-posted request accepted with the tag that the tag check found (R3, R99). -/
def acceptTagged (s : State) (kind : ReqKind) (t : Target) (addr : Addr) (i : TagId) : State :=
  let tag := (s.tag i).allocated kind t addr s.wdata
  let s := (report s .accepted (some t) (some (i, tag.gen))).setTag i tag
  schedule (enqueue s t.link (.ref i)) t.link

/-- An accepted request enters its link (R99). The last arm is not reached: the tag check found a tag. -/
def acceptIssue (s : State) (kind : IssueKind) (t : Target) : State :=
  let addr := requestAddr s
  match kind, lowestFree s with
  | .write, _ => acceptPosted s t addr s.wdata
  | .writeConfirmed, some i => acceptTagged s .writeConfirmed t addr i
  | .read, some i => acceptTagged s .read t addr i
  | .writeConfirmed, none => report s .noTag (some t) none
  | .read, none => report s .noTag (some t) none

/-- An issue attempt through ISSUE of a kind that passes check 1 (R97). -/
def issue (s : State) (kind : IssueKind) : State :=
  match decode s (requestAddr s) with
  | none => report s .noTarget none none
  | some t =>
    match issueRefusal s kind t with
    | some o => report s o (some t) none
    | none => acceptIssue s kind t

/-- A write to ISSUE of any value (R97, check 1). -/
def issueCode (s : State) (value : Word) : State :=
  if value = 1 then issue s .write
  else if value = 2 then issue s .writeConfirmed
  else if value = 3 then issue s .read
  else report s .badKind none none

/-- A refused stream write (R103). -/
def refuseStream (s : State) (o : IssueOutcome) (t : Option Target) : State :=
  (report s o t none).raiseBit issueRefusedBit

/-- A write to STREAM_DATA (R102, R103). -/
def stream (s : State) (data : Word) : State :=
  match decode s s.streamAddr with
  | none => refuseStream s .noTarget none
  | some t =>
    match issueRefusal s .write t with
    | some o => refuseStream s o (some t)
    | none => { acceptPosted s t s.streamAddr data with streamAddr := s.streamAddr + 1 }

/-- A write to RADDR_H or RADDR_L: its half of the staged address is replaced, and the stream address is
loaded with the two halves as the write leaves them (R96). -/
def stageAddr (s : State) (half : AddrHalf) (value : Word) : State :=
  let s := match half with
    | .high => { s with raddrH := value.extractLsb' 0 8 }
    | .low => { s with raddrL := value }
  { s with streamAddr := requestAddr s }

/-- ISSUE_WRITE (R99). -/
def execIssueWrite (s : State) : Host.Outcome State Fault Refusal := unlessReset s (issue s .write)

/-- ISSUE_WRITE_CONFIRMED (R99). -/
def execIssueWriteConfirmed (s : State) : Host.Outcome State Fault Refusal :=
  unlessReset s (issue s .writeConfirmed)

/-- ISSUE_READ (R99). -/
def execIssueRead (s : State) : Host.Outcome State Fault Refusal := unlessReset s (issue s .read)

/-- BAD_KIND: a write of the value to ISSUE (R97; log 10 for the values 1, 2 and 3). -/
def execBadKind (value : Word) (s : State) : Host.Outcome State Fault Refusal :=
  unlessReset s (issueCode s value)

/-- STREAM_DATA (R102, R103). -/
def execStreamData (data : Word) (s : State) : Host.Outcome State Fault Refusal :=
  unlessReset s (stream s data)

/-- RADDR_WRITE (R96). -/
def execRaddrWrite (half : AddrHalf) (value : Word) (s : State) : Host.Outcome State Fault Refusal :=
  unlessReset s (stageAddr s half value)

end Sys2Proof.Machine
end

