-- ==== Sys2Proof/Machine/HostQueues.lean ====
section
/-! DEFINITION. The queue commands: CQ_POP (R76), EQ_POP (R113), and the trigger and age limits of the two
queues (R78, R79, R114). -/

namespace Sys2Proof.Machine

/-- A write to CQ_POP: the head record leaves and its tag enters FREE; ignored on an empty queue (R22, R76). -/
def popCompletion (s : State) : State :=
  match s.cq with
  | [] => s
  | r :: rest => { s.setTag r.index (s.tag r.index).freed with cq := rest }

/-- The release of a paused link (R118). -/
def Link.release (k : Link) : Link :=
  Link.askResume { k with evs := { k.evs with paused := false, pauseRepeat := 0 } }

/-- The link of a popped event record: its count falls, and the release test is made (R113, R118). -/
def Link.eventPopped (low : Nat) (k : Link) : Link :=
  let k := { k with evs := { k.evs with count := k.evs.count - 1 } }
  if k.ctl.state = .up ∧ k.evs.paused ∧ k.evs.count ≤ low then k.release else k

/-- A write to EQ_POP: the head record leaves; ignored on an empty queue (R113). -/
def popEvent (s : State) : State :=
  match s.eq with
  | [] => s
  | r :: rest =>
    schedule (({ s with eq := rest }).onLink r.link (Link.eventPopped s.lowThreshold)) r.link

/-- A write in range takes effect; one out of range is ignored and sets CONFIG_ERROR (R169). -/
def ifInRange (ok : Bool) (s s' : State) : State := if ok then s' else s.raiseBit configErrorBit

/-- A write to CQ_TRIGGER (R78). -/
def setCqTrigger (s : State) (v : Word) : State :=
  ifInRange (decide (1 ≤ v.toNat) && decide (v.toNat ≤ Config.completionCapacity)) s
    { s with cqTrigger := v.toNat }

/-- A write to CQ_AGE (R79). -/
def setCqAge (s : State) (v : Word) : State :=
  ifInRange (decide (v.toNat ≤ 255)) s { s with cqAge := v.toNat }

/-- A write to EQ_TRIGGER (R114). -/
def setEqTrigger (s : State) (v : Word) : State :=
  ifInRange (decide (1 ≤ v.toNat) && decide (v.toNat ≤ Config.eventCapacity)) s
    { s with eqTrigger := v.toNat }

/-- A write to EQ_AGE (R114). -/
def setEqAge (s : State) (v : Word) : State :=
  ifInRange (decide (v.toNat ≤ 255)) s { s with eqAge := v.toNat }

/-- CQ_POP; the written value is ignored (R76). -/
def execCqPop (_value : Word) (s : State) : Host.Outcome State Fault Refusal :=
  unlessReset s (popCompletion s)

/-- EQ_POP; the written value is ignored (R113). -/
def execEqPop (_value : Word) (s : State) : Host.Outcome State Fault Refusal :=
  unlessReset s (popEvent s)

/-- CQ_TRIGGER_WRITE (R78). -/
def execCqTriggerWrite (v : Word) (s : State) : Host.Outcome State Fault Refusal :=
  unlessReset s (setCqTrigger s v)

/-- CQ_AGE_WRITE (R79). -/
def execCqAgeWrite (v : Word) (s : State) : Host.Outcome State Fault Refusal :=
  unlessReset s (setCqAge s v)

/-- EQ_TRIGGER_WRITE (R114). -/
def execEqTriggerWrite (v : Word) (s : State) : Host.Outcome State Fault Refusal :=
  unlessReset s (setEqTrigger s v)

/-- EQ_AGE_WRITE (R114). -/
def execEqAgeWrite (v : Word) (s : State) : Host.Outcome State Fault Refusal :=
  unlessReset s (setEqAge s v)

end Sys2Proof.Machine
end

