-- ==== Sys2Proof/Machine/LinkCommands.lean ====
section
/-! DEFINITION. The link commands START, STOP and BAD_COMMAND (R144 to R148), which act on the link that
LINK_SELECT names. -/

namespace Sys2Proof.Machine

/-- LINK_CMD_RESULT as a link command sets it (R144). -/
def reportCommand (s : State) (o : CmdOutcome) (c : CmdCode) : State :=
  { s with cmdResult := { outcome := o, command := c, link := s.linkSelect } }

/-- A link as START leaves it, before the pick (R145). -/
def Link.started (k : Link) : Link :=
  { k with
    ctl := { k.ctl with
      cause := .none
      trainAttempts := 1
      helloTimer := some (startTimer Config.helloInterval)
      discards := 0
      firstDiscard := none }
    cfg := { k.cfg with divisor := k.cfg.rate }
    sch := { k.sch with helloDue := true }
    rcv := { k.rcv with consecutiveBad := 0 } }

/-- START taken in OFF or FAILED (R145). -/
def startLink (s : State) (l : LinkId) : State :=
  schedule (enterState (s.onLink l Link.started) l .training) l

/-- STOP taken in TRAINING, UP or FAILED (R147, R148); it clears the control-frame slot (R43). -/
def stopLink (s : State) (l : LinkId) : State :=
  let s := takeDown s l .linkStopped
  let s := s.onLink l (fun k => { k with
    sch := { k.sch with pendingPause := .none, lastPause := .none } })
  enterState s l .off

/-- A write of 1 to LINK_CMD (R145, R146). -/
def commandStart (s : State) : State :=
  match (s.link s.linkSelect).ctl.state with
  | .off => startLink (reportCommand s .taken .start) s.linkSelect
  | .failed => startLink (reportCommand s .taken .start) s.linkSelect
  | .training => reportCommand s .ignored .start
  | .up => reportCommand s .ignored .start

/-- A write of 2 to LINK_CMD (R146, R147, R148). -/
def commandStop (s : State) : State :=
  match (s.link s.linkSelect).ctl.state with
  | .off => reportCommand s .ignored .stop
  | .training => stopLink (reportCommand s .taken .stop) s.linkSelect
  | .up => stopLink (reportCommand s .taken .stop) s.linkSelect
  | .failed => stopLink (reportCommand s .taken .stop) s.linkSelect

/-- A write to LINK_CMD of any value (R144). -/
def commandCode (s : State) (value : Word) : State :=
  if value = 1 then commandStart s
  else if value = 2 then commandStop s
  else reportCommand s .badCommand .other

/-- START (R145). -/
def execStart (s : State) : Host.Outcome State Fault Refusal := unlessReset s (commandStart s)

/-- STOP (R148). -/
def execStop (s : State) : Host.Outcome State Fault Refusal := unlessReset s (commandStop s)

/-- BAD_COMMAND: a write of the value to LINK_CMD (R144; log 10 for the values 1 and 2). -/
def execBadCommand (value : Word) (s : State) : Host.Outcome State Fault Refusal :=
  unlessReset s (commandCode s value)

end Sys2Proof.Machine
end

