-- ==== Sys2Proof/Machine/Reset.lean ====
section
/-! DEFINITION. SOFT_RESET (R181), PIN_RESET and RESET_RELEASE (R180). -/

namespace Sys2Proof.Machine

/-- A link after the soft reset: OFF with its collections, slot, posted-write state, event counts, statistics
and receiver cleared, a frame on the line aborted, the configuration kept (R162, R50, R69, R125, R141). -/
def Link.softReset (n : Nat) (l : LinkId) (k : Link) : Link :=
  { ctl := .pinReset
    cfg := k.cfg
    sch := { Scheduler.pinReset with tx := abortTx n l k.sch.tx }
    pst := .clear
    evs := .clear
    rcv := .clear }

/-- The soft reset (R181). -/
def softReset (s : State) : State :=
  { s with
    tags := mapTable Tag.freed s.tags
    cq := []
    eq := []
    links := Vector.ofFn (fun l => Link.softReset s.freeCount l (s.link l))
    issueResult := .clear
    cmdResult := .clear
    sticky := 0
    freeCount := s.freeCount + 1 }

/-- A write to CHIP_CMD: 1 is the soft reset, any other value is ignored (R176, R181). -/
def chipCommand (s : State) (value : Word) : State := if value = 1 then softReset s else s

/-- The assertion of RESET_N: every block at its pin-reset values, and the data bus released (R174). The levels of
the strobes are the host's, and the commands that wait and the model's free-value counter are no state of the part:
they stay (R180, logs 3, 12 and 19). -/
def pinReset (s : State) : State :=
  { State.reset with
    inReset := true, bus := { s.bus with driven := none }, freeCount := s.freeCount, pending := s.pending }

/-- SOFT_RESET (R181). -/
def execSoftReset (s : State) : Host.Outcome State Fault Refusal := unlessReset s (softReset s)

/-- PIN_RESET (R180). -/
def execPinReset (s : State) : Host.Outcome State Fault Refusal := .next (pinReset s)

/-- RESET_RELEASE: the part leaves reset with the values it holds (R180). -/
def execResetRelease (s : State) : Host.Outcome State Fault Refusal :=
  .next { s with inReset := false }

end Sys2Proof.Machine
end

