-- ==== Sys2Proof/Machine/HostConfig.lean ====
section
/-! DEFINITION. Configuration writes: INT_STATUS (R170), INT_ENABLE (R171), CONFIG_WRITE over the rest of the
register map (R176 to R179), and the whole map's write side (R183). -/

namespace Sys2Proof.Machine

/-- A write to INT_STATUS clears each sticky bit written with 1 (R170). -/
def clearSticky (s : State) (v : Word) : State := { s with sticky := s.sticky &&& ~~~v }

/-- A write to INT_ENABLE (R171). -/
def setIntEnable (s : State) (v : Word) : State :=
  ifInRange (decide (v &&& ~~~enableMask = 0)) s { s with intEnable := v }

/-- A write to WIN_SELECT (R90). -/
def setWinSelect (s : State) (v : Word) : State :=
  if h : v.toNat < 9 then { s with winSelect := ⟨v.toNat, h⟩ } else s.raiseBit configErrorBit

/-- A write to LINK_SELECT (R143). -/
def setLinkSelect (s : State) (v : Word) : State :=
  if h : v.toNat < 4 then { s with linkSelect := ⟨v.toNat, h⟩ } else s.raiseBit configErrorBit

/-- A directed window changed. -/
def onWindow (s : State) (k : Fin 8) (f : DirWindow → DirWindow) : State :=
  { s with windows := s.windows.set k (f s.windows[k]) }

/-- A write to WIN_CTRL (R91). -/
def setWinCtrl (s : State) (v : Word) : State :=
  match directedIndex s.winSelect with
  | some k => ifInRange (dirCtrlInRange v) s (onWindow s k (·.withCtrl v))
  | none => ifInRange (stripedCtrlInRange v) s { s with striped := s.striped.withCtrl v }

/-- The base of the selected window changed (R92). -/
def onBase (s : State) (f : Addr → Addr) : State :=
  match directedIndex s.winSelect with
  | some k => onWindow s k (fun w => { w with base := f w.base })
  | none => { s with striped := { s.striped with base := f s.striped.base } }

/-- Bits 15 to 8 of a written high part are 0 (R92). -/
def highPartInRange (v : Word) : Bool := decide (v.toNat ≤ 255)

/-- A write to WIN_BASE_H (R92). -/
def setBaseHigh (s : State) (v : Word) : State :=
  ifInRange (highPartInRange v) s (onBase s (withHigh · (v.extractLsb' 0 8)))

/-- A write to WIN_BASE_L (R92). -/
def setBaseLow (s : State) (v : Word) : State := onBase s (withLow · v)

/-- A write to WIN_REMAP_H; ignored without CONFIG_ERROR while WS is selected (R92). -/
def setRemapHigh (s : State) (v : Word) : State :=
  match directedIndex s.winSelect with
  | some k =>
    ifInRange (highPartInRange v) s
      (onWindow s k (fun w => { w with remap := withHigh w.remap (v.extractLsb' 0 8) }))
  | none => s

/-- A write to WIN_REMAP_L; ignored while WS is selected (R92). -/
def setRemapLow (s : State) (v : Word) : State :=
  match directedIndex s.winSelect with
  | some k => onWindow s k (fun w => { w with remap := withLow w.remap v })
  | none => s

/-- The configuration of the link that LINK_SELECT names, changed by a write in range (R177, R179). -/
def setLinkConfig (s : State) (ok : Bool) (f : LinkConfig → LinkConfig) : State :=
  ifInRange ok s (s.onLink s.linkSelect (fun k => { k with cfg := f k.cfg }))

/-- The three fields of LINK_LIMITS written together (R8). -/
def LinkConfig.withLimits (c : LinkConfig) (v : Word) : LinkConfig :=
  { c with busyLimit := field v 8 8, replayLimit := field v 4 4, retryLimit := field v 0 3 }

/-- A write to EQ_THRESH (R123). -/
def setThresholds (s : State) (v : Word) : State :=
  ifInRange (thresholdsInRange v) s { s with highThreshold := field v 8 6, lowThreshold := field v 0 6 }

/-- A write to EQ_REPEAT (R117). -/
def setRepeat (s : State) (v : Word) : State :=
  ifInRange (repeatInRange v) s { s with repeatK := v.toNat }

/-- A write of a value at an offset of the register window (R183). Read-only registers and unassigned offsets
ignore it (R176). -/
def registerWrite (s : State) (offset : Offset) (v : Word) : State :=
  match offset.toNat with
  | 0x00 => chipCommand s v
  | 0x01 => clearSticky s v
  | 0x02 => setIntEnable s v
  | 0x04 => stageAddr s .high v
  | 0x05 => stageAddr s .low v
  | 0x06 => { s with wdata := v }
  | 0x07 => issueCode s v
  | 0x09 => stream s v
  | 0x18 => popCompletion s
  | 0x19 => setCqTrigger s v
  | 0x1A => setCqAge s v
  | 0x25 => popEvent s
  | 0x26 => setEqTrigger s v
  | 0x27 => setEqAge s v
  | 0x28 => setThresholds s v
  | 0x29 => setRepeat s v
  | 0x2A => setWinSelect s v
  | 0x2B => setWinCtrl s v
  | 0x2C => setBaseHigh s v
  | 0x2D => setBaseLow s v
  | 0x2E => setRemapHigh s v
  | 0x2F => setRemapLow s v
  | 0x31 => setLinkSelect s v
  | 0x32 => commandCode s v
  | 0x35 => setLinkConfig s (inUnits v) (fun c => { c with rate := v.toNat })
  | 0x36 => setLinkConfig s (inUnits v) (fun c => { c with replyTo := v.toNat })
  | 0x37 => setLinkConfig s (inUnits v) (fun c => { c with replayTo := v.toNat })
  | 0x38 => setLinkConfig s (limitsInRange v) (·.withLimits v)
  | 0x39 => setLinkConfig s (inUnits v) (fun c => { c with delay := v.toNat })
  | 0x3A => setLinkConfig s (inUnits v) (fun c => { c with hold := v.toNat })
  | _ => s

/-- INT_STATUS_WRITE (R170). -/
def execIntStatusWrite (v : Word) (s : State) : Host.Outcome State Fault Refusal :=
  unlessReset s (clearSticky s v)

/-- INT_ENABLE_WRITE (R171). -/
def execIntEnableWrite (v : Word) (s : State) : Host.Outcome State Fault Refusal :=
  unlessReset s (setIntEnable s v)

/-- CONFIG_WRITE (R179); at an offset with a row of its own it is that row's write (log 10). -/
def execConfigWrite (offset : Offset) (v : Word) (s : State) : Host.Outcome State Fault Refusal :=
  unlessReset s (registerWrite s offset v)

end Sys2Proof.Machine
end

