-- ==== Sys2Proof/Machine/Receive.lean ====
section
/-! DEFINITION. What a link receives: good frames by kind and link state (R137), malformed frames (R138),
aborted frames (R135) and single bytes (R134). A good-frame command stands for the event of the frame's
closing flag, so it leaves the receiver HUNTING (log 7). -/

namespace Sys2Proof.Machine

/-- The link is in a state in which frames count for the consecutive-bad count (R138, R139). -/
def Link.judging (k : Link) : Bool :=
  match k.ctl.state with
  | .training => true
  | .up => true
  | .off => false
  | .failed => false

/-- The receiver at a good frame's closing flag (R134, R139). -/
def Link.goodFrame (k : Link) : Link :=
  { k with rcv := { k.rcv.hunt with
      consecutiveBad := if k.judging then 0 else k.rcv.consecutiveBad } }

/-- The framing state after a frame ends without being handed on (R134, R135). -/
def Link.hunting (k : Link) : Link := { k with rcv := k.rcv.hunt }

/-- A good HELLO (R151, R153, R156). -/
def takeHello (s : State) (l : LinkId) : State :=
  match (s.link l).ctl.state with
  | .off => s
  | .failed => s
  | .training =>
    enterUp (s.onLink l (fun k => { k with sch := { k.sch with helloAckPending := true } })) l
  | .up =>
    let s := flush s l .partnerReset true
    enterUp (s.onLink l (fun k => { k with sch := { k.sch with helloAckPending := true } })) l

/-- A good HELLO_ACK (R150). -/
def takeHelloAck (s : State) (l : LinkId) : State :=
  match (s.link l).ctl.state with
  | .off => s
  | .failed => s
  | .training => enterUp s l
  | .up => s.onLink l .countStale

/-- The frame is handed to its owner while the link is UP, and ignored otherwise (R137). -/
def whileUp (s : State) (l : LinkId) (s' : State) : State :=
  if (s.link l).ctl.state = .up then s' else s

/-- The class of an ACKP against the replay list (R57). -/
def ackClass (replay : List ReplayEntry) (n : Seq) : AckClass :=
  match replay with
  | [] => .outOfWindow
  | e :: _ =>
    let k := (n - e.seq).toNat
    if k = 0 then .duplicate
    else if k ≤ replay.length then .progress k
    else .outOfWindow

/-- The pass position after a progress acknowledgement that removed some entries (R59). -/
def ReplayPass.afterProgress (p : ReplayPass) (removed rest : List ReplayEntry) : ReplayPass :=
  match p with
  | .none => .none
  | .active Option.none => .active Option.none
  | .active (some q) =>
    if removed.any (fun e => decide (e.seq = q)) then .active (rest.head?.map (·.seq))
    else .active (some q)

/-- The posted-write state after a progress acknowledgement by k (R58, R59). -/
def Link.ackProgress (k : Nat) (link : Link) : Link :=
  let rest := link.pst.replay.drop k
  { link with pst := { link.pst with
      replay := rest
      attempts := 0
      duplicates := 0
      pass := link.pst.pass.afterProgress (link.pst.replay.take k) rest
      timer := if link.pst.pass = .none then (if rest = [] then none else link.replayStart)
        else link.pst.timer } }

/-- The duplicate count after a duplicate acknowledgement (R60). -/
def Link.ackDuplicate (k : Link) : Link :=
  { k with pst := { k.pst with duplicates := bump 2 k.pst.duplicates } }

/-- An ACKP taken at the replay list (R57 to R61). -/
def takeAckp (s : State) (l : LinkId) (n : Seq) : State :=
  match ackClass (s.link l).pst.replay n with
  | .progress k => schedule (endPassIfOver (s.onLink l (Link.ackProgress k)) l) l
  | .duplicate =>
    let s := s.onLink l Link.ackDuplicate
    if (s.link l).pst.duplicates = 2 ∧ (s.link l).pst.pass = .none then schedule (askPass s l) l else s
  | .outOfWindow => s.onLink l .countStale

/-- The pause-repeat count at an arrival on a paused link (R117). -/
def Link.repeatAdvance (interval : Nat) (k : Link) : Link :=
  if interval ≤ k.evs.pauseRepeat + 1 then
    Link.askPause { k with evs := { k.evs with pauseRepeat := 0 } }
  else { k with evs := { k.evs with pauseRepeat := k.evs.pauseRepeat + 1 } }

/-- The entry test after a store on a link that was not paused (R116). -/
def Link.entryTest (high : Nat) (k : Link) : Link :=
  if high < k.evs.count then
    Link.askPause { k with evs := { k.evs with paused := true, pauseRepeat := 0 } }
  else k

/-- The link of a stored event (R109). -/
def Link.eventStored (high interval : Nat) (k : Link) : Link :=
  let k' := { k with evs := { k.evs with lost := 0, count := k.evs.count + 1 } }
  if k.evs.paused then k'.repeatAdvance interval else k'.entryTest high

/-- The link of a dropped event (R110). -/
def Link.eventDropped (interval : Nat) (k : Link) : Link :=
  let k' := { k with evs := { k.evs with lost := bump Config.byteMax k.evs.lost } }
  if k.evs.paused then k'.repeatAdvance interval else k'

/-- The record of a stored event (R108, R109). -/
def eventRecord (s : State) (l : LinkId) (st : StationId) (code : Byte) (payload : Word) : EvtRecord :=
  { link := l, station := st, code := code, payload := payload, lostBefore := (s.link l).evs.lost,
    time := s.usCount, age := .fresh }

/-- An EVT taken at the Event Unit (R109, R110). -/
def takeEvent (s : State) (l : LinkId) (st : StationId) (code : Byte) (payload : Word) : State :=
  if s.eq.length < Config.eventCapacity then
    let s' := { s with eq := s.eq ++ [eventRecord s l st code payload] }
    schedule (s'.onLink l (Link.eventStored s.highThreshold s.repeatK)) l
  else
    schedule ((s.raiseBit eventDropBit).onLink l (Link.eventDropped s.repeatK)) l

/-- A PAUSE taken (R45). -/
def takePause (s : State) (l : LinkId) : State :=
  s.onLink l (fun k => { k with sch := { k.sch with
    outPause := true
    holdTimer := some (startTimer (k.cfg.hold * Config.holdUnit)) } })

/-- A RESUME taken: ignored while the flag is clear (R46). -/
def takeResume (s : State) (l : LinkId) : State :=
  if (s.link l).sch.outPause then
    schedule (s.onLink l (fun k => { k with
      sch := { k.sch with outPause := false, holdTimer := none } })) l
  else s

/-- A good frame at its owner, by kind and link state (R137, R133). -/
def handOn (s : State) (l : LinkId) (f : RxFrame) : State :=
  match f with
  | .hello _ _ => takeHello s l
  | .helloAck _ _ => takeHelloAck s l
  | .ackp _ b => whileUp s l (takeAckp s l (seqOfByte b))
  | .done st b => whileUp s l (takeFinal s l st b .done)
  | .data st b w => whileUp s l (takeFinal s l st b (.data w))
  | .retry st b => whileUp s l (takeRetry s l st b)
  | .fault st b c => whileUp s l (takeFinal s l st b (.fault c))
  | .evt st c p => whileUp s l (takeEvent s l st c p)
  | .pause _ _ => whileUp s l (takePause s l)
  | .resume _ _ => whileUp s l (takeResume s l)

/-- A good frame taken in the event of its closing flag (R137, R139). -/
def takeGood (s : State) (l : LinkId) (f : RxFrame) : State := handOn (s.onLink l Link.goodFrame) l f

/-- The counts of a malformed frame (R138). -/
def Link.countBad (k : Link) : Link :=
  { k with rcv := { k.rcv with
      badFrames := bump Config.badFrameMax k.rcv.badFrames
      consecutiveBad := k.rcv.consecutiveBad + 1 } }

/-- A malformed frame closed: counted in TRAINING and UP, where the eighth in a row fails the link (R138). -/
def takeMalformed (s : State) (l : LinkId) : State :=
  let s := s.onLink l Link.hunting
  if (s.link l).judging then
    let s := s.onLink l Link.countBad
    if Config.consecutiveBadLimit ≤ (s.link l).rcv.consecutiveBad then failLink s l .badFrames else s
  else s

/-- An aborted frame (R135). -/
def takeAborted (s : State) (l : LinkId) : State := s.onLink l Link.hunting

/-- A byte taken by the receiver of a link (R134). The flag that closes a frame has the frame judged and taken
in the same event (R136, R137); a flag after an escape aborts it (R135). -/
def takeByte (s : State) (l : LinkId) (b : Byte) : State :=
  let r := (s.link l).rcv
  if r.closes b then
    match r.judge with
    | some f => takeGood s l f
    | none => takeMalformed s l
  else if r.aborts b then takeAborted s l
  else s.onLink l (fun k => { k with rcv := k.rcv.take b })

/-- HELLO (R151, R153). -/
def execHello (l : LinkId) (st : StationId) (version : Byte) (s : State) :
    Host.Outcome State Fault Refusal :=
  unlessReset s (takeGood s l (.hello st version))

/-- HELLO_ACK (R150). -/
def execHelloAck (l : LinkId) (st : StationId) (version : Byte) (s : State) :
    Host.Outcome State Fault Refusal :=
  unlessReset s (takeGood s l (.helloAck st version))

/-- ACKP (R57). -/
def execAckp (l : LinkId) (st : StationId) (second : Byte) (s : State) :
    Host.Outcome State Fault Refusal :=
  unlessReset s (takeGood s l (.ackp st second))

/-- DONE (R11). -/
def execDone (l : LinkId) (st : StationId) (tag : Byte) (s : State) :
    Host.Outcome State Fault Refusal :=
  unlessReset s (takeGood s l (.done st tag))

/-- DATA (R11). -/
def execData (l : LinkId) (st : StationId) (tag : Byte) (w : Word) (s : State) :
    Host.Outcome State Fault Refusal :=
  unlessReset s (takeGood s l (.data st tag w))

/-- FAULT (R11). -/
def execFault (l : LinkId) (st : StationId) (tag : Byte) (code : Byte) (s : State) :
    Host.Outcome State Fault Refusal :=
  unlessReset s (takeGood s l (.fault st tag code))

/-- RETRY (R13). -/
def execRetry (l : LinkId) (st : StationId) (tag : Byte) (s : State) :
    Host.Outcome State Fault Refusal :=
  unlessReset s (takeGood s l (.retry st tag))

/-- EVT (R109, R110). -/
def execEvt (l : LinkId) (st : StationId) (code : Byte) (payload : Word) (s : State) :
    Host.Outcome State Fault Refusal :=
  unlessReset s (takeGood s l (.evt st code payload))

/-- PAUSE (R45). -/
def execPause (l : LinkId) (st : StationId) (second : Byte) (s : State) :
    Host.Outcome State Fault Refusal :=
  unlessReset s (takeGood s l (.pause st second))

/-- RESUME (R46). -/
def execResume (l : LinkId) (st : StationId) (second : Byte) (s : State) :
    Host.Outcome State Fault Refusal :=
  unlessReset s (takeGood s l (.resume st second))

/-- MALFORMED_FRAME (R138). -/
def execMalformedFrame (l : LinkId) (s : State) : Host.Outcome State Fault Refusal :=
  unlessReset s (takeMalformed s l)

/-- ABORTED_FRAME (R135). -/
def execAbortedFrame (l : LinkId) (s : State) : Host.Outcome State Fault Refusal :=
  unlessReset s (takeAborted s l)

/-- BYTE_RECEIVED (R134). -/
def execByteReceived (l : LinkId) (b : Byte) (s : State) : Host.Outcome State Fault Refusal :=
  unlessReset s (takeByte s l b)

end Sys2Proof.Machine
end

