-- ==== Sys2Proof/Machine/Timers.lean ====
section
/-! DEFINITION. TICK (R165, R167), the timer expiries (R6, R16, R47, R62, R149) and the age counts (R71, R80,
R115, R167). An expiry that is not due does not occur, and its command changes nothing (log 4). -/

namespace Sys2Proof.Machine

/-- A tick counted by the timers of a link (R167). -/
def Link.tick (k : Link) : Link :=
  { k with
    ctl := { k.ctl with helloTimer := k.ctl.helloTimer.map Countdown.tick }
    sch := { k.sch with holdTimer := k.sch.holdTimer.map Countdown.tick }
    pst := { k.pst with timer := k.pst.timer.map Countdown.tick } }

/-- The tick: US_COUNT advances, and every running timer and every age count of the part counts it (R165,
R167). -/
def tick (s : State) : State :=
  { s with
    usCount := s.usCount + 1
    tags := mapTable (fun t => { t with timer := t.timer.tick }) s.tags
    cq := s.cq.map (fun r => { r with age := r.age.tick })
    eq := s.eq.map (fun r => { r with age := r.age.tick })
    links := mapTable Link.tick s.links }

/-- The reply timer of a tag is due: it runs in AWAIT (R1, R6). -/
def Tag.replyDue (t : Tag) : Bool :=
  match t.state, t.timer with
  | .await, .reply c => c.due
  | _, _ => false

/-- The retry-delay timer of a tag is due: it runs in DEFERRED (R1, R16). -/
def Tag.delayDue (t : Tag) : Bool :=
  match t.state, t.timer with
  | .deferred, .retryDelay c => c.due
  | _, _ => false

/-- The expiry of a reply timer (R6, R7). -/
def replyExpiry (s : State) (i : TagId) : State :=
  let t : Tag := { (s.tag i) with timeouts := (s.tag i).timeouts + 1 }
  if (s.link t.link).cfg.retryLimit < t.timeouts then
    completeTag (s.setTag i t) i (plainResult .timeout)
  else
    let s := s.setTag i { t with state := .resend, timer := .stopped }
    schedule (s.onLink t.link (fun k => { k with
      sch := { k.sch with resend := k.sch.resend ++ [i] } })) t.link

/-- The expiry of a retry-delay timer (R16, R31). -/
def delayExpiry (s : State) (i : TagId) : State :=
  let t := s.tag i
  let s := s.setTag i { t with state := .ready, timer := .stopped }
  schedule (s.onLink t.link (fun k => { k with
    sch := { k.sch with ready := k.sch.ready ++ [i] } })) t.link

/-- The expiry of a replay timer: it stops, and a pass is asked (R62). -/
def replayExpiry (s : State) (l : LinkId) : State :=
  let s := s.onLink l (fun k => { k with pst := { k.pst with timer := none } })
  schedule (askPass s l) l

/-- The expiry of a pause-hold timer (R47). -/
def holdExpiry (s : State) (l : LinkId) : State :=
  schedule (s.onLink l (fun k => { k with
    sch := { k.sch with outPause := false, holdTimer := none } })) l

/-- The expiry of a HELLO interval timer in TRAINING (R149). -/
def helloExpiry (s : State) (l : LinkId) : State :=
  if (s.link l).ctl.trainAttempts < Config.trainingAttemptLimit then
    schedule (s.onLink l (fun k => { k with
      ctl := { k.ctl with
        trainAttempts := k.ctl.trainAttempts + 1
        helloTimer := some (startTimer Config.helloInterval) }
      sch := { k.sch with helloDue := true } })) l
  else failLink s l .trainExhausted

/-- The HELLO interval timer of a link in TRAINING is due (R149). -/
def Link.helloExpires (k : Link) : Bool :=
  decide (k.ctl.state = .training) && timerDue k.ctl.helloTimer

/-- The increment of the age count of a record at a position of a queue, when it is due (R71, R108, R167). -/
def ageIncrement (s : State) (q : AgedQueue) (n : Nat) : State :=
  match q with
  | .completion =>
    { s with cq := s.cq.modify n (fun r => if r.age.due then { r with age := r.age.increment } else r) }
  | .event =>
    { s with eq := s.eq.modify n (fun r => if r.age.due then { r with age := r.age.increment } else r) }

/-- The head's next increment is due and brings its count to the limit: the age expiry of a queue (R80,
R115). -/
def ageExpires (limit : Nat) (head : Option AgeCount) : Bool :=
  match head with
  | some a => a.due && decide (a.count + 1 = limit)
  | none => false

/-- TICK (R165). While RESET_N is low the tick is stopped (R180). -/
def execTick (s : State) : Host.Outcome State Fault Refusal := unlessReset s (tick s)

/-- REPLY_TIMER_EXPIRY (R6). -/
def execReplyTimerExpiry (i : TagId) (s : State) : Host.Outcome State Fault Refusal :=
  unlessReset s (if (s.tag i).replyDue then replyExpiry s i else s)

/-- RETRY_DELAY_EXPIRY (R16). -/
def execRetryDelayExpiry (i : TagId) (s : State) : Host.Outcome State Fault Refusal :=
  unlessReset s (if (s.tag i).delayDue then delayExpiry s i else s)

/-- REPLAY_TIMER_EXPIRY (R62). -/
def execReplayTimerExpiry (l : LinkId) (s : State) : Host.Outcome State Fault Refusal :=
  unlessReset s (if timerDue (s.link l).pst.timer then replayExpiry s l else s)

/-- PAUSE_HOLD_EXPIRY (R47). -/
def execPauseHoldExpiry (l : LinkId) (s : State) : Host.Outcome State Fault Refusal :=
  unlessReset s (if timerDue (s.link l).sch.holdTimer then holdExpiry s l else s)

/-- HELLO_INTERVAL_EXPIRY (R149). -/
def execHelloIntervalExpiry (l : LinkId) (s : State) : Host.Outcome State Fault Refusal :=
  unlessReset s (if (s.link l).helloExpires then helloExpiry s l else s)

/-- CQ_AGE_EXPIRY (R80). -/
def execCqAgeExpiry (s : State) : Host.Outcome State Fault Refusal :=
  unlessReset s (if ageExpires s.cqAge (s.cq.head?.map (·.age)) then ageIncrement s .completion 0 else s)

/-- EQ_AGE_EXPIRY (R115). -/
def execEqAgeExpiry (s : State) : Host.Outcome State Fault Refusal :=
  unlessReset s (if ageExpires s.eqAge (s.eq.head?.map (·.age)) then ageIncrement s .event 0 else s)

/-- AGE_COUNT_INCREMENT (R167). -/
def execAgeCountIncrement (q : AgedQueue) (n : Nat) (s : State) : Host.Outcome State Fault Refusal :=
  unlessReset s (ageIncrement s q n)

end Sys2Proof.Machine
end

