-- ==== Sys2Proof/Machine/Transmit.lean ====
section
/-! DEFINITION. The ends of transmissions (R4, R32, R54, R63, R43) and of the abort sequence (R49). An end of
a transmission that is not on the line does not occur, and its command changes nothing (log 4). -/

namespace Sys2Proof.Machine

/-- The index and generation that a request frame carries (R4). -/
def TxFrame.request : TxFrame → Option (TagId × Gen)
  | .rd i g _ _ => some (i, g)
  | .wrc i g _ _ _ => some (i, g)
  | .hello => none
  | .helloAck => none
  | .pause => none
  | .resume => none
  | .wr _ _ _ _ => none

/-- The tag enters AWAIT at the end of its transmission: the transmission is counted and the reply timer
starts with the reply timeout of its link (R4). -/
def Tag.transmitted (t : Tag) (replyTo : Nat) : Tag :=
  { t with
    state := .await
    attempts := bump Config.byteMax t.attempts
    timer := .reply (startTimer (replyTo * Config.replyUnit)) }

/-- The tag named by a request frame still matches it at the end of its transmission, apart from its queue
entry (R4). -/
def Tag.stillSent (t : Tag) (g : Gen) (l : LinkId) (st : TagState) : Bool :=
  decide (t.gen = g) && decide (t.link = l) && decide (t.state = st)

/-- The end of an RD or WRC frame picked from the resend order (R4). -/
def endResend (s : State) (l : LinkId) (i : TagId) (g : Gen) : State :=
  let s := s.onLink l Link.txFree
  let t := s.tag i
  let s := if t.stillSent g l .resend then s.setTag i (t.transmitted (s.link l).cfg.replyTo) else s
  schedule s l

/-- The head of a transmit queue leaves it (R32). -/
def Link.headLeaves (k : Link) : Link := { k with sch := { k.sch with txq := k.sch.txq.drop 1 } }

/-- The end of an RD or WRC frame picked from the queue head (R4, R32). -/
def endQueued (s : State) (l : LinkId) (i : TagId) (g : Gen) (held : Bool) : State :=
  let s := s.onLink l Link.txFree
  let t := s.tag i
  let s :=
    if held && decide ((s.link l).sch.txq.head? = some (.ref i)) && t.stillSent g l .queued then
      (s.setTag i (t.transmitted (s.link l).cfg.replyTo)).onLink l Link.headLeaves
    else s
  schedule s l

/-- The replay list and the sequence number after the end of a first transmission (R54). -/
def Link.joinReplay (seq : Seq) (p : Posted) (k : Link) : Link :=
  { k with pst := { k.pst with
      replay := k.pst.replay ++ [{ seq := seq, write := p }]
      nextSeq := k.pst.nextSeq + 1
      timer := if k.pst.replay = [] ∧ k.pst.pass = .none then k.replayStart else k.pst.timer } }

/-- The end of the first transmission of a WR frame (R54, R32). A queue head that is no posted write does not
occur with such a frame on the line; the transmitter is then only freed (log 15). -/
def endFirstWr (s : State) (l : LinkId) (seq : Seq) : State :=
  let s := s.onLink l Link.txFree
  match (s.link l).sch.txq with
  | .posted p :: _ => schedule (s.onLink l (fun k => (k.joinReplay seq p).headLeaves)) l
  | .ref _ :: _ => schedule s l
  | [] => schedule s l

/-- The end of a frame of a replay pass (R63). -/
def endPassFrame (s : State) (l : LinkId) : State :=
  schedule (endPassIfOver (s.onLink l Link.txFree) l) l

/-- A transmission or abort sequence that has no owner beside the transmitter ends (R43, R49). -/
def freeTransmitter (s : State) (l : LinkId) : State := schedule (s.onLink l Link.txFree) l

/-- The end of whatever request frame is on the line (R4). -/
def endRequest (s : State) (l : LinkId) : State :=
  match (s.link l).sch.tx with
  | .sending f src =>
    match f.request, src with
    | some (i, g), .resend => endResend s l i g
    | some (i, g), .queueHead held => endQueued s l i g held
    | _, _ => s
  | .idle => s
  | .aborting _ => s

/-- The end of whatever first WR transmission is on the line (R54). -/
def endWrite (s : State) (l : LinkId) : State :=
  match (s.link l).sch.tx with
  | .sending (.wr seq _ _ _) (.queueHead _) => endFirstWr s l seq
  | _ => s

/-- The end of whatever pass frame is on the line (R63). -/
def endPassSending (s : State) (l : LinkId) : State :=
  match (s.link l).sch.tx with
  | .sending _ .pass => endPassFrame s l
  | _ => s

/-- The end of whatever control frame is on the line (R43). -/
def endControl (s : State) (l : LinkId) : State :=
  match (s.link l).sch.tx with
  | .sending _ .control => freeTransmitter s l
  | _ => s

/-- The end of the abort sequence (R49). -/
def endAbort (s : State) (l : LinkId) : State :=
  match (s.link l).sch.tx with
  | .aborting _ => freeTransmitter s l
  | _ => s

/-- END_OF_REQUEST_TRANSMISSION (R4). -/
def execEndOfRequestTransmission (l : LinkId) (s : State) : Host.Outcome State Fault Refusal :=
  unlessReset s (endRequest s l)

/-- END_OF_FIRST_WR_TRANSMISSION (R54). -/
def execEndOfFirstWrTransmission (l : LinkId) (s : State) : Host.Outcome State Fault Refusal :=
  unlessReset s (endWrite s l)

/-- END_OF_PASS_FRAME (R63). -/
def execEndOfPassFrame (l : LinkId) (s : State) : Host.Outcome State Fault Refusal :=
  unlessReset s (endPassSending s l)

/-- END_OF_CONTROL_FRAME (R43). -/
def execEndOfControlFrame (l : LinkId) (s : State) : Host.Outcome State Fault Refusal :=
  unlessReset s (endControl s l)

/-- ABORT_SEQUENCE_END (R49). -/
def execAbortSequenceEnd (l : LinkId) (s : State) : Host.Outcome State Fault Refusal :=
  unlessReset s (endAbort s l)

end Sys2Proof.Machine
end

