-- ==== Sys2Proof/Machine/Dispatch.lean ====
section
/-! DEFINITION. The meaning of each command: one arm per constructor of Instr. -/

namespace Sys2Proof.Machine

def exec (i : Instr) (s : State) : Host.Outcome State Fault Refusal :=
  match i with
  | .issueWrite => Sys2Proof.Machine.execIssueWrite s
  | .issueWriteConfirmed => Sys2Proof.Machine.execIssueWriteConfirmed s
  | .issueRead => Sys2Proof.Machine.execIssueRead s
  | .badKind value => Sys2Proof.Machine.execBadKind value s
  | .streamData data => Sys2Proof.Machine.execStreamData data s
  | .raddrWrite half value => Sys2Proof.Machine.execRaddrWrite half value s
  | .cqPop value => Sys2Proof.Machine.execCqPop value s
  | .eqPop value => Sys2Proof.Machine.execEqPop value s
  | .start => Sys2Proof.Machine.execStart s
  | .stop => Sys2Proof.Machine.execStop s
  | .badCommand value => Sys2Proof.Machine.execBadCommand value s
  | .softReset => Sys2Proof.Machine.execSoftReset s
  | .intStatusWrite value => Sys2Proof.Machine.execIntStatusWrite value s
  | .intEnableWrite value => Sys2Proof.Machine.execIntEnableWrite value s
  | .cqTriggerWrite value => Sys2Proof.Machine.execCqTriggerWrite value s
  | .cqAgeWrite value => Sys2Proof.Machine.execCqAgeWrite value s
  | .eqTriggerWrite value => Sys2Proof.Machine.execEqTriggerWrite value s
  | .eqAgeWrite value => Sys2Proof.Machine.execEqAgeWrite value s
  | .configWrite offset value => Sys2Proof.Machine.execConfigWrite offset value s
  | .pinReset => Sys2Proof.Machine.execPinReset s
  | .resetRelease => Sys2Proof.Machine.execResetRelease s
  | .tick => Sys2Proof.Machine.execTick s
  | .replyTimerExpiry tag => Sys2Proof.Machine.execReplyTimerExpiry tag s
  | .retryDelayExpiry tag => Sys2Proof.Machine.execRetryDelayExpiry tag s
  | .replayTimerExpiry link => Sys2Proof.Machine.execReplayTimerExpiry link s
  | .pauseHoldExpiry link => Sys2Proof.Machine.execPauseHoldExpiry link s
  | .helloIntervalExpiry link => Sys2Proof.Machine.execHelloIntervalExpiry link s
  | .cqAgeExpiry => Sys2Proof.Machine.execCqAgeExpiry s
  | .eqAgeExpiry => Sys2Proof.Machine.execEqAgeExpiry s
  | .ageCountIncrement queue position => Sys2Proof.Machine.execAgeCountIncrement queue position s
  | .endOfRequestTransmission link => Sys2Proof.Machine.execEndOfRequestTransmission link s
  | .endOfFirstWrTransmission link => Sys2Proof.Machine.execEndOfFirstWrTransmission link s
  | .endOfPassFrame link => Sys2Proof.Machine.execEndOfPassFrame link s
  | .endOfControlFrame link => Sys2Proof.Machine.execEndOfControlFrame link s
  | .abortSequenceEnd link => Sys2Proof.Machine.execAbortSequenceEnd link s
  | .hello link station version => Sys2Proof.Machine.execHello link station version s
  | .helloAck link station version => Sys2Proof.Machine.execHelloAck link station version s
  | .ackp link station second => Sys2Proof.Machine.execAckp link station second s
  | .done link station tag => Sys2Proof.Machine.execDone link station tag s
  | .data link station tag word => Sys2Proof.Machine.execData link station tag word s
  | .fault link station tag code => Sys2Proof.Machine.execFault link station tag code s
  | .retry link station tag => Sys2Proof.Machine.execRetry link station tag s
  | .evt link station code payload => Sys2Proof.Machine.execEvt link station code payload s
  | .pause link station second => Sys2Proof.Machine.execPause link station second s
  | .resume link station second => Sys2Proof.Machine.execResume link station second s
  | .malformedFrame link => Sys2Proof.Machine.execMalformedFrame link s
  | .abortedFrame link => Sys2Proof.Machine.execAbortedFrame link s
  | .byteReceived link byte => Sys2Proof.Machine.execByteReceived link byte s

end Sys2Proof.Machine
end

