-- ==== Sys2Proof/Machine/Window.lean ====
section
/-! DEFINITION. The read side of the register window (R183), and the transmit lines. -/

namespace Sys2Proof.Machine

/-- A word read from the record at the head of a queue, 0 while the queue is empty (R75, R112). -/
def headWord {α : Type} (q : List α) (f : α → Word) : Word :=
  match q with
  | [] => 0
  | r :: _ => f r

/-- WIN_CTRL of the selected window (R91). -/
def winCtrlWord (s : State) : Word :=
  match directedIndex s.winSelect with
  | some k => s.windows[k].ctrlWord
  | none => s.striped.ctrlWord

/-- The base of the selected window (R92). -/
def selectedBase (s : State) : Addr :=
  match directedIndex s.winSelect with
  | some k => s.windows[k].base
  | none => s.striped.base

/-- The remap of the selected window; 0 for WS (R92). -/
def selectedRemap (s : State) : Addr :=
  match directedIndex s.winSelect with
  | some k => s.windows[k].remap
  | none => 0

/-- The value that a register reads as (R183). Write-only registers and unassigned offsets read 0 (R175). -/
def registerRead (s : State) (offset : Offset) : Word :=
  let k := s.link s.linkSelect
  match offset.toNat with
  | 0x01 => intStatus s
  | 0x02 => s.intEnable
  | 0x03 => s.usCount
  | 0x04 => s.raddrH.setWidth 16
  | 0x05 => s.raddrL
  | 0x06 => s.wdata
  | 0x08 => s.issueResult.word
  | 0x0A => placed (tagsInUse s) 0
  | 0x10 => placed s.cq.length 0
  | 0x11 => headWord s.cq CplRecord.tagWord
  | 0x12 => headWord s.cq CplRecord.addrHighWord
  | 0x13 => headWord s.cq (fun r => addrLow r.hostAddr)
  | 0x14 => headWord s.cq CplRecord.remoteHighWord
  | 0x15 => headWord s.cq (fun r => addrLow r.remoteAddr)
  | 0x16 => headWord s.cq (fun r => r.readData.getD 0)
  | 0x17 => headWord s.cq CplRecord.countsWord
  | 0x19 => placed s.cqTrigger 0
  | 0x1A => placed s.cqAge 0
  | 0x20 => placed s.eq.length 0
  | 0x21 => headWord s.eq EvtRecord.srcWord
  | 0x22 => headWord s.eq (fun r => r.code.setWidth 16)
  | 0x23 => headWord s.eq (fun r => r.payload)
  | 0x24 => headWord s.eq (fun r => r.time)
  | 0x26 => placed s.eqTrigger 0
  | 0x27 => placed s.eqAge 0
  | 0x28 => placed s.highThreshold 8 ||| placed s.lowThreshold 0
  | 0x29 => placed s.repeatK 0
  | 0x2A => placed s.winSelect.val 0
  | 0x2B => winCtrlWord s
  | 0x2C => addrHigh (selectedBase s)
  | 0x2D => addrLow (selectedBase s)
  | 0x2E => addrHigh (selectedRemap s)
  | 0x2F => addrLow (selectedRemap s)
  | 0x30 => winStatus s
  | 0x31 => placed s.linkSelect.val 0
  | 0x33 => s.cmdResult.word
  | 0x34 => k.statusWord
  | 0x35 => placed k.cfg.rate 0
  | 0x36 => placed k.cfg.replyTo 0
  | 0x37 => placed k.cfg.replayTo 0
  | 0x38 => k.cfg.limitsWord
  | 0x39 => placed k.cfg.delay 0
  | 0x3A => placed k.cfg.hold 0
  | 0x3B => k.occWord
  | 0x3C => k.statAWord
  | 0x3D => placed k.rcv.badFrames 0
  | 0x3E => addrHigh (k.ctl.firstDiscard.getD 0)
  | 0x3F => addrLow (k.ctl.firstDiscard.getD 0)
  | _ => 0

/-- The bytes that the transmitter of a link places on its line in its present state; none is mark (R37). -/
def State.txLine (s : State) (l : LinkId) : List Byte := txBytes (s.link l).sch.tx

/-- The time of the frame or abort sequence on the line of a link, in periods of the 50 MHz clock (R37). -/
def State.txClocks (s : State) (l : LinkId) : Nat :=
  lineClocks (s.link l).cfg.divisor (s.txLine l)

end Sys2Proof.Machine
end

