-- ==== Sys2Proof/Machine/HostBus.lean ====
section
/-! DEFINITION. The host bus (R174): the accesses that the levels of the strobes name, and the edge of a strobe,
which takes the read event or the write event. The table has no row for an edge, so `step` takes none: an edge is an
operation of its own, and the rows of the register writes stand for their write events (log 19). -/

namespace Sys2Proof.Machine

/-- A bus cycle by the levels of CS_N, RD_N, WR_N and RESET_N, true for high (R174). -/
def busCycle (csN rdN wrN resetN : Bool) : BusCycle :=
  match csN, rdN, wrN, resetN with
  | false, false, true, true => .read
  | false, true, false, true => .write
  | _, _, _, _ => .noEvent

/-- The bus cycle in progress. -/
def State.cycle (s : State) : BusCycle := busCycle s.bus.csN s.bus.rdN s.bus.wrN (!s.inReset)

/-- A strobe at a level. -/
def HostBus.setStrobe (b : HostBus) (strobe : Strobe) (high : Bool) : HostBus :=
  match strobe with
  | .cs => { b with csN := high }
  | .rd => { b with rdN := high }
  | .wr => { b with wrN := high }

/-- The part with a strobe at a level. -/
def State.withStrobe (s : State) (strobe : Strobe) (high : Bool) : State :=
  { s with bus := s.bus.setStrobe strobe high }

/-- What the part drives on D15 to D0. -/
def State.drive (s : State) (w : Option Word) : State := { s with bus := { s.bus with driven := w } }

/-- A strobe comes to a level, with A5 to A0 and D15 to D0 as the host holds them at that moment (R174).
* The fall that makes the cycle a read is the later fall of CS_N and RD_N: the read event, which takes the word that
  the part drives from then on.
* The rise that ends a write is the earlier rise of CS_N and WR_N: the write event, which is the command that the
  offset and the value name.
* Every other change is no event. A read that goes on keeps its word, and outside a read nothing is driven. -/
def busEdge (strobe : Strobe) (high : Bool) (offset : Offset) (data : Word) (s : State) :
    Host.Outcome State Fault Refusal :=
  let t := s.withStrobe strobe high
  if s.cycle = .read ∧ t.cycle = .read then .next t
  else if high = false ∧ t.cycle = .read then .next (t.drive (some (registerRead s offset)))
  else if high = true ∧ s.cycle = .write ∧ t.cycle ≠ .write then
    exec (hostCommand offset data) (t.drive none)
  else .next (t.drive none)

end Sys2Proof.Machine
end

