-- ==== Sys2Proof/Safety.lean ====
section
/-! DEFINITION. What a sound state of the part is, in the terms the statements use: which commands occur in a
state, and the invariants that the data sheet states of the machine as a whole. -/

namespace Sys2Proof.Machine

/-! ### Which commands occur -/

/-- The command stands for an event that occurs in the state: an expiry is due (R167), the transmission that
ends is on the line (R37), the record whose age count increments is queued and due, RESET_N is low for its
release, and nothing but the release and the assertion of RESET_N occurs while it is low (R180). -/
def occurs (c : Instr) (s : State) : Bool :=
  match c with
  | .pinReset => true
  | .resetRelease => s.inReset
  | .replyTimerExpiry i => !s.inReset && (s.tag i).replyDue
  | .retryDelayExpiry i => !s.inReset && (s.tag i).delayDue
  | .replayTimerExpiry l => !s.inReset && timerDue (s.link l).pst.timer
  | .pauseHoldExpiry l => !s.inReset && timerDue (s.link l).sch.holdTimer
  | .helloIntervalExpiry l => !s.inReset && (s.link l).helloExpires
  | .cqAgeExpiry => !s.inReset && ageExpires s.cqAge (s.cq.head?.map (·.age))
  | .eqAgeExpiry => !s.inReset && ageExpires s.eqAge (s.eq.head?.map (·.age))
  | .ageCountIncrement .completion n =>
    !s.inReset && (match s.cq[n]? with
      | some r => r.age.due
      | none => false)
  | .ageCountIncrement .event n =>
    !s.inReset && (match s.eq[n]? with
      | some r => r.age.due
      | none => false)
  | .endOfRequestTransmission l =>
    !s.inReset && (match (s.link l).sch.tx with
      | .sending f .resend => f.request.isSome
      | .sending f (.queueHead _) => f.request.isSome
      | _ => false)
  | .endOfFirstWrTransmission l =>
    !s.inReset && (match (s.link l).sch.tx with
      | .sending (.wr _ _ _ _) (.queueHead _) => true
      | _ => false)
  | .endOfPassFrame l =>
    !s.inReset && (match (s.link l).sch.tx with
      | .sending _ .pass => true
      | _ => false)
  | .endOfControlFrame l =>
    !s.inReset && (match (s.link l).sch.tx with
      | .sending _ .control => true
      | _ => false)
  | .abortSequenceEnd l =>
    !s.inReset && (match (s.link l).sch.tx with
      | .aborting _ => true
      | _ => false)
  | .issueWrite => !s.inReset
  | .issueWriteConfirmed => !s.inReset
  | .issueRead => !s.inReset
  | .badKind _ => !s.inReset
  | .streamData _ => !s.inReset
  | .raddrWrite _ _ => !s.inReset
  | .cqPop _ => !s.inReset
  | .eqPop _ => !s.inReset
  | .start => !s.inReset
  | .stop => !s.inReset
  | .badCommand _ => !s.inReset
  | .softReset => !s.inReset
  | .intStatusWrite _ => !s.inReset
  | .intEnableWrite _ => !s.inReset
  | .cqTriggerWrite _ => !s.inReset
  | .cqAgeWrite _ => !s.inReset
  | .eqTriggerWrite _ => !s.inReset
  | .eqAgeWrite _ => !s.inReset
  | .configWrite _ _ => !s.inReset
  | .tick => !s.inReset
  | .hello _ _ _ => !s.inReset
  | .helloAck _ _ _ => !s.inReset
  | .ackp _ _ _ => !s.inReset
  | .done _ _ _ => !s.inReset
  | .data _ _ _ _ => !s.inReset
  | .fault _ _ _ _ => !s.inReset
  | .retry _ _ _ => !s.inReset
  | .evt _ _ _ _ => !s.inReset
  | .pause _ _ _ => !s.inReset
  | .resume _ _ _ => !s.inReset
  | .malformedFrame _ => !s.inReset
  | .abortedFrame _ => !s.inReset
  | .byteReceived _ _ => !s.inReset

/-! ### Frames and the line -/

/-- The command that a good frame received on a link is. -/
def RxFrame.command (l : LinkId) : RxFrame → Instr
  | .hello st version => .hello l st version
  | .helloAck st version => .helloAck l st version
  | .ackp st second => .ackp l st second
  | .done st tag => .done l st tag
  | .data st tag word => .data l st tag word
  | .retry st tag => .retry l st tag
  | .fault st tag code => .fault l st tag code
  | .evt st code payload => .evt l st code payload
  | .pause st second => .pause l st second
  | .resume st second => .resume l st second

/-- A transmitter as an abort leaves it: a frame on the line is followed by the abort sequence that belongs to
some byte of it, whichever was being placed on the line, and everything else stays (R49, log 3). -/
def AbortedTo (before after : Transmitter) : Prop :=
  match before with
  | .idle => after = .idle
  | .aborting rest => after = .aborting rest
  | .sending f _ => ∃ point < (lineBytes f).length, after = .aborting (abortRest f point)

/-! ### Registers and counts -/

/-- A per-link configuration is within its ranges (R8, R44, R56, R127, R178). -/
abbrev LinkConfig.Legal (c : LinkConfig) : Prop :=
  (1 ≤ c.rate ∧ c.rate ≤ 255) ∧ (1 ≤ c.divisor ∧ c.divisor ≤ 255) ∧
  (1 ≤ c.replyTo ∧ c.replyTo ≤ 255) ∧ (1 ≤ c.replayTo ∧ c.replayTo ≤ 255) ∧
  (1 ≤ c.delay ∧ c.delay ≤ 255) ∧ (1 ≤ c.hold ∧ c.hold ≤ 255) ∧
  c.retryLimit ≤ 7 ∧ c.busyLimit ≤ 255 ∧ (1 ≤ c.replayLimit ∧ c.replayLimit ≤ 15)

/-- The configuration registers hold values of their ranges, and the two interrupt registers hold bits of
their named positions alone (R84, R85, R78, R79, R114, R117, R123, R168, R171). -/
abbrev ConfigLegal (s : State) : Prop :=
  (1 ≤ s.cqTrigger ∧ s.cqTrigger ≤ 32) ∧ s.cqAge ≤ 255 ∧
  (1 ≤ s.eqTrigger ∧ s.eqTrigger ≤ 64) ∧ s.eqAge ≤ 255 ∧
  (1 ≤ s.highThreshold ∧ s.highThreshold ≤ 63) ∧ s.lowThreshold < s.highThreshold ∧
  (s.repeatK = 1 ∨ s.repeatK = 2 ∨ s.repeatK = 4 ∨ s.repeatK = 8) ∧
  (∀ k : Fin 8, 8 ≤ s.windows[k].exp ∧ s.windows[k].exp ≤ 24) ∧
  (14 ≤ s.striped.exp ∧ s.striped.exp ≤ 24) ∧ (8 ≤ s.striped.shift ∧ s.striped.shift ≤ 19) ∧
  s.sticky &&& ~~~0x700F = 0 ∧ s.intEnable &&& ~~~0x730F = 0 ∧
  (∀ l : LinkId, (s.link l).cfg.Legal)

/-- The counts of a link are within the ranges that the data sheet gives them (R52, R107, R139, R142); a link
that judges frames has not reached the eighth malformed frame in a row (R138). -/
abbrev Link.CountsLegal (k : Link) : Prop :=
  k.ctl.trainAttempts ≤ 16 ∧ k.ctl.discards ≤ 255 ∧ k.ctl.stale ≤ 255 ∧
  k.pst.attempts ≤ 15 ∧ k.pst.duplicates ≤ 2 ∧
  k.evs.lost ≤ 255 ∧ k.evs.pauseRepeat ≤ 7 ∧
  k.rcv.badFrames ≤ 65535 ∧ k.rcv.consecutiveBad ≤ 8 ∧
  (k.ctl.state = .training ∨ k.ctl.state = .up → k.rcv.consecutiveBad ≤ 7) ∧ k.rcv.kept.length ≤ 9

/-- The counts of a tag are within their ranges (R1); timeouts passes the largest retry limit only in the
event that completes the tag (R6). -/
abbrev Tag.CountsLegal (t : Tag) : Prop :=
  t.attempts ≤ 255 ∧ t.busy ≤ 255 ∧ t.timeouts ≤ 8 ∧
  (t.state ≠ .free → t.state ≠ .complete → t.timeouts ≤ 7)

/-- Every count is within its range (R1, R52, R71, R107, R108, R142). -/
abbrev CountsLegal (s : State) : Prop :=
  (∀ i : TagId, (s.tag i).CountsLegal) ∧ (∀ l : LinkId, (s.link l).CountsLegal) ∧
  (∀ r ∈ s.cq, r.age.count ≤ 255) ∧ (∀ r ∈ s.eq, r.age.count ≤ 255 ∧ r.lostBefore ≤ 255)

/-! ### Timers -/

/-- A tag's timer runs as its state says: the reply timer in AWAIT, the retry-delay timer in DEFERRED, none in
every other state (R1, R2). -/
def Tag.timerFits (t : Tag) : Bool :=
  match t.state, t.timer with
  | .await, .reply _ => true
  | .deferred, .retryDelay _ => true
  | .free, .stopped => true
  | .queued, .stopped => true
  | .resend, .stopped => true
  | .ready, .stopped => true
  | .complete, .stopped => true
  | _, _ => false

/-- The timers of a link run as their rules say: the HELLO interval timer in TRAINING (R142), the pause-hold
timer while the outbound pause is set (R44), the replay timer while the replay list holds an entry and no pass
is in progress (R56). -/
abbrev Link.TimersFit (k : Link) : Prop :=
  (k.ctl.helloTimer.isSome ↔ k.ctl.state = .training) ∧
  (k.sch.holdTimer.isSome ↔ k.sch.outPause = true) ∧
  (k.pst.timer.isSome ↔ k.pst.replay ≠ [] ∧ k.pst.pass = .none)

/-- Every timer runs exactly where its rule says, and a result is present exactly in COMPLETE (R1, R2). -/
abbrev TimersFit (s : State) : Prop :=
  (∀ i : TagId, (s.tag i).timerFits = true ∧
    ((s.tag i).result.isSome ↔ (s.tag i).state = .complete)) ∧
  (∀ l : LinkId, (s.link l).TimersFit)

/-! ### Queues -/

/-- Each link's event count is the number of its records, and the event queue holds at most 64 (R108). -/
abbrev EventCountsAgree (s : State) : Prop :=
  s.eq.length ≤ 64 ∧
  ∀ l : LinkId, (s.link l).evs.count = s.eq.countP (fun r => decide (r.link = l))

/-- The record of a tag in COMPLETE: what its tag holds (R20, R21). -/
def CplRecord.standsFor (r : CplRecord) (t : Tag) : Prop :=
  t.state = .complete ∧ ∃ res, t.result = some res ∧ r =
    { index := r.index, gen := t.gen, kind := t.kind, status := res.status, faultCode := res.faultCode,
      link := t.link, station := t.station, hostAddr := t.hostAddr, remoteAddr := t.remoteAddr,
      readData := res.readData, attempts := t.attempts, busy := t.busy, age := r.age }

/-- Every COMPLETE tag has exactly one record, and every record belongs to a COMPLETE tag (R20). -/
def RecordsAgree (s : State) : Prop :=
  (∀ r ∈ s.cq, r.standsFor (s.tag r.index)) ∧
  ∀ i : TagId, s.cq.countP (fun r => decide (r.index = i)) =
    if (s.tag i).state = .complete then 1 else 0

/-- The tag and generation of the request frame on the line of a link that was picked from the resend order. -/
def Link.resendOnLine (k : Link) : Option (TagId × Gen) :=
  match k.sch.tx with
  | .sending (.rd i g _ _) .resend => some (i, g)
  | .sending (.wrc i g _ _ _) .resend => some (i, g)
  | _ => none

/-- The tag of the request frame on the line of a link whose queue entry is still held, with the generation
the frame carries. -/
def Link.headOnLine (k : Link) : Option (TagId × Gen) :=
  match k.sch.tx with
  | .sending (.rd i g _ _) (.queueHead true) => some (i, g)
  | .sending (.wrc i g _ _ _) (.queueHead true) => some (i, g)
  | _ => none

/-- The collections of a link refer to a tag exactly as its state says (R2, R7, R17, R29): a QUEUED tag has one
transmit-queue entry, a READY tag one place in the ready-deferred list, a RESEND tag one place in the resend
order unless its frame is on the line; and no other tag has any. -/
abbrev Link.RefersTo (k : Link) (l : LinkId) (i : TagId) (t : Tag) : Prop :=
  k.sch.txq.count (.ref i) = (if t.link = l ∧ t.state = .queued then 1 else 0) ∧
  k.sch.ready.count i = (if t.link = l ∧ t.state = .ready then 1 else 0) ∧
  k.sch.resend.count i =
    (if t.link = l ∧ t.state = .resend ∧ k.resendOnLine.map (·.1) ≠ some i then 1 else 0) ∧
  (∀ g, k.resendOnLine = some (i, g) → t.link = l →
    t.state ≠ .await ∧ t.state ≠ .deferred ∧ t.state ≠ .ready ∧ (t.state = .resend → t.gen = g)) ∧
  (∀ g, k.headOnLine = some (i, g) →
    t.gen = g ∧ t.link = l ∧ t.state = .queued ∧ k.sch.txq.head? = some (.ref i))

/-- The transmit queue holds at most 16 entries, the ready-deferred list holds tags only while it is full
(R29, R31). -/
abbrev Link.QueueFits (k : Link) : Prop :=
  k.sch.txq.length ≤ 16 ∧ (k.sch.ready ≠ [] → k.sch.txq.length = 16)

/-- The collections of every link agree with the tag table (R2, R29). -/
def ReferencesAgree (s : State) : Prop :=
  ∀ l : LinkId, (s.link l).QueueFits ∧ ∀ i : TagId, (s.link l).RefersTo l i (s.tag i)

/-! ### Links -/

/-- The sequence numbers of a replay list are consecutive from a number (R54). -/
def consecutiveFrom : Seq → List ReplayEntry → Prop
  | _, [] => True
  | n, e :: rest => e.seq = n ∧ consecutiveFrom (n + 1) rest

/-- The replay list of a link holds at most 8 entries, numbered consecutively up to next_seq; a first
transmission on the line carries next_seq, is the head of the transmit queue and has a slot of the list; a
pass position is the number of an entry of the list, and the tail of a pass that is at its end is on the line
(R52, R53, R54, R59, R63). -/
def Link.ReplayNumbered (k : Link) : Prop :=
  k.pst.replay.length ≤ 8 ∧
  consecutiveFrom (k.pst.nextSeq - BitVec.ofNat 6 k.pst.replay.length) k.pst.replay ∧
  (∀ seq st a d held, k.sch.tx = .sending (.wr seq st a d) (.queueHead held) →
    seq = k.pst.nextSeq ∧ k.pst.replay.length < 8 ∧
    ∃ p, k.sch.txq.head? = some (.posted p) ∧ p.station = st ∧ p.remoteAddr = a ∧ p.data = d) ∧
  (∀ q, k.pst.pass = .active (some q) → ∃ e ∈ k.pst.replay, e.seq = q) ∧
  (k.pst.pass = .active none → ∃ f, k.sch.tx = .sending f .pass)

/-- The replay list of every link is numbered as R54 states. -/
def ReplayNumbered (s : State) : Prop := ∀ l : LinkId, (s.link l).ReplayNumbered

/-- No RD or WRC frame is on the line for a station for which the replay list holds a posted write: none was
begun while it did, and none joined since (R35). -/
def Link.OrderKept (k : Link) : Prop :=
  ∀ src i g st a,
    (k.sch.tx = .sending (.rd i g st a) src ∨ ∃ d, k.sch.tx = .sending (.wrc i g st a d) src) →
    ∀ e ∈ k.pst.replay, e.write.station ≠ st

/-- The station ordering condition on every link (R35). -/
def OrderKept (s : State) : Prop := ∀ l : LinkId, (s.link l).OrderKept

/-- A RESUME is pending only while the stations last saw PAUSE, and only in UP is a pause frame pending
(R120, R42). -/
abbrev Link.ResumeFollowsPause (k : Link) : Prop :=
  (k.sch.pendingPause = .resume → k.sch.lastPause = .pause) ∧
  (k.ctl.state ≠ .up → k.sch.pendingPause = .none)

/-- Every RESUME that can reach a line follows a PAUSE (R120). -/
abbrev ResumeFollowsPause (s : State) : Prop := ∀ l : LinkId, (s.link l).ResumeFollowsPause

/-- A link that is not UP holds no traffic (R157): its collections, its posted-write state, its pauses and its
control-frame slot are clear. -/
abbrev Link.QuietUnlessUp (k : Link) : Prop :=
  k.ctl.state ≠ .up →
    k.sch.txq = [] ∧ k.sch.resend = [] ∧ k.sch.ready = [] ∧
    k.pst = { nextSeq := 0, replay := [], timer := none, pass := .none, attempts := 0, duplicates := 0 } ∧
    k.sch.outPause = false ∧ k.sch.helloAckPending = false ∧ k.sch.pendingPause = .none ∧
    k.evs.paused = false

/-- A link that is not UP holds no traffic and has no tag in flight (R157). -/
abbrev QuietUnlessUp (s : State) : Prop :=
  (∀ l : LinkId, (s.link l).QuietUnlessUp) ∧
  (∀ i : TagId, (s.tag i).state ≠ .free → (s.tag i).state ≠ .complete →
    (s.link (s.tag i).link).ctl.state = .up)

/-- A link whose transmitter is IDLE has no eligible frame (R38). -/
def IdleHasNothing (s : State) : Prop :=
  ∀ l : LinkId, (s.link l).sch.tx = .idle → pick s.tags (s.link l) = s.link l

/-! ### The host bus -/

/-- The part drives D15 to D0 only in a read (R174). -/
abbrev DrivesOnlyReads (s : State) : Prop := s.bus.driven.isSome → s.cycle = .read

/-! ### All of them -/

/-- A sound state: every invariant that the data sheet states of the machine as a whole. -/
structure Sound (s : State) : Prop where
  config : ConfigLegal s
  counts : CountsLegal s
  timers : TimersFit s
  events : EventCountsAgree s
  records : RecordsAgree s
  references : ReferencesAgree s
  replay : ReplayNumbered s
  order : OrderKept s
  resume : ResumeFollowsPause s
  quiet : QuietUnlessUp s
  idle : IdleHasNothing s
  bus : DrivesOnlyReads s

end Sys2Proof.Machine
end

