-- ==== Sys2Proof/WellFormed.lean ====
section
/-! DEFINITION. Which commands are well formed: the operands that a row of the table excludes because another
row stands for them. Every other operand is bounded by its type. -/

namespace Sys2Proof

/-- The offsets whose writes have rows of their own, whatever the value (R183): INT_STATUS, INT_ENABLE,
RADDR_H, RADDR_L, ISSUE, STREAM_DATA, CQ_POP, CQ_TRIGGER, CQ_AGE, EQ_POP, EQ_TRIGGER, EQ_AGE, LINK_CMD. -/
def ownRowOffsets : List Offset :=
  [0x01, 0x02, 0x04, 0x05, 0x07, 0x09, 0x18, 0x19, 0x1A, 0x25, 0x26, 0x27, 0x32]

/-- A write that CONFIG_WRITE stands for: any but one with a row of its own. CHIP_CMD is SOFT_RESET for the
value 1 and CONFIG_WRITE for every other value (R176). -/
def isConfigWrite (offset : Offset) (value : Word) : Bool :=
  !ownRowOffsets.contains offset && !(offset == 0x00 && value == 1)

/-- The position of a record that a queue can hold (R71, R107). -/
def positionFits : AgedQueue → Nat → Bool
  | .completion, n => decide (n < Config.completionCapacity)
  | .event, n => decide (n < Config.eventCapacity)

/-- A command that its row of the table stands for. -/
def Instr.wellFormed : Instr → Bool
  | .badKind value => !(value == 1 || value == 2 || value == 3)
  | .badCommand value => !(value == 1 || value == 2)
  | .configWrite offset value => isConfigWrite offset value
  | .ageCountIncrement queue position => positionFits queue position
  | .issueWrite => true
  | .issueWriteConfirmed => true
  | .issueRead => true
  | .streamData _ => true
  | .raddrWrite _ _ => true
  | .cqPop _ => true
  | .eqPop _ => true
  | .start => true
  | .stop => true
  | .softReset => true
  | .intStatusWrite _ => true
  | .intEnableWrite _ => true
  | .cqTriggerWrite _ => true
  | .cqAgeWrite _ => true
  | .eqTriggerWrite _ => true
  | .eqAgeWrite _ => true
  | .pinReset => true
  | .resetRelease => true
  | .tick => true
  | .replyTimerExpiry _ => true
  | .retryDelayExpiry _ => true
  | .replayTimerExpiry _ => true
  | .pauseHoldExpiry _ => true
  | .helloIntervalExpiry _ => true
  | .cqAgeExpiry => true
  | .eqAgeExpiry => true
  | .endOfRequestTransmission _ => true
  | .endOfFirstWrTransmission _ => true
  | .endOfPassFrame _ => true
  | .endOfControlFrame _ => true
  | .abortSequenceEnd _ => true
  | .hello _ _ _ => true
  | .helloAck _ _ _ => true
  | .ackp _ _ _ => true
  | .done _ _ _ => true
  | .data _ _ _ _ => true
  | .fault _ _ _ _ => true
  | .retry _ _ _ => true
  | .evt _ _ _ _ => true
  | .pause _ _ _ => true
  | .resume _ _ _ => true
  | .malformedFrame _ => true
  | .abortedFrame _ => true
  | .byteReceived _ _ => true

end Sys2Proof
end

