-- ==== Sys2Proof/Certificates/Slice0/Obligations.lean ====
section
/-! DEFINITION. The statements about the model, for the provers. A statement says a next state in full where it
writes it as an equation; `schedule` in it is the end of an event (deferred re-entry, then the pick), which
`ReadyTagsTakeFreeSlots` and `PickFollowsThePriority` state. -/

section

open Sys2Proof Sys2Proof.Machine

/-! ### The step -/

/-- Log 1: the model's queue of waiting commands. The front command is run on the state with the queue's rest,
and the block idles on an empty queue. -/
def Obligations.StepRunsTheFrontCommand : Prop :=
  (∀ (c : Instr) (rest : List Instr) (s : State),
    step { s with pending := c :: rest } = exec c { s with pending := rest }) ∧
  ∀ s : State, s.pending = [] → step s = .next s

/-- Every command is taken: none stops the part, none touches the queue of waiting commands, and none but the
assertion of RESET_N, which releases the data bus, changes a strobe or the word that a read holds on the bus
(R174). -/
def Obligations.EveryCommandIsTaken : Prop :=
  ∀ (c : Instr) (s : State), ∃ t, exec c s = .next t ∧ t.pending = s.pending ∧
    t.bus = (if c = .pinReset then { s.bus with driven := none } else s.bus)

/-- R180 and R167 with log 4: a command that stands for an event which does not occur (RESET_N low, an expiry
not due, a transmission not on the line) changes nothing. -/
def Obligations.CommandsThatDoNotOccurChangeNothing : Prop :=
  ∀ (c : Instr) (s : State), occurs c s = false → exec c s = .next s

/-- R174, R176, R183: the accesses of the host. The later fall of CS_N and RD_N, with WR_N high, takes the read
event, and the register's word of that event is driven until a strobe ends the read; the earlier rise of CS_N and
WR_N, with RD_N high, takes the write event. That event is the command that the offset and the value name, offset by
offset as the map gives them: a row of the table, which has the effect of the register's write. Writes to read-only
registers and unassigned offsets, and writes to CHIP_CMD of any value but 1, are ignored and set no bit. The model's
choices (log 19): edges are an operation beside the queue of commands; the rise of WR_N with CS_N and RD_N low takes no
read event, so nothing is driven; and an access is judged by the levels at its edge and just before it, so that a
write strobe low through a reset takes its event at its rise after the release, and a read strobe low at the release
takes none. -/
def Obligations.HostAccessesAreTakenAtTheirEdges : Prop :=
  (∀ (s : State) (strobe : Strobe) (high : Bool) (offset : Offset) (data : Word),
    let edge := busEdge strobe high offset data s
    let b : HostBus := match strobe with
      | .cs => { s.bus with csN := high }
      | .rd => { s.bus with rdN := high }
      | .wr => { s.bus with wrN := high }
    let now (w : Option Word) : Host.Outcome State Fault Refusal :=
      .next { s with bus := { b with driven := w } }
    let reading (b : HostBus) : Prop :=
      b.csN = false ∧ b.rdN = false ∧ b.wrN = true ∧ s.inReset = false
    let writing (b : HostBus) : Prop :=
      b.csN = false ∧ b.wrN = false ∧ b.rdN = true ∧ s.inReset = false
    (¬reading s.bus → reading b → high = false → edge = now (some (registerRead s offset))) ∧
    (reading s.bus → reading b → edge = now s.bus.driven) ∧
    (¬reading s.bus → reading b → high = true → edge = now none) ∧
    (writing s.bus → ¬writing b → high = true →
      edge = exec (hostCommand offset data) { s with bus := { b with driven := none } }) ∧
    (¬reading b → ¬writing s.bus ∨ writing b ∨ high = false → edge = now none)) ∧
  (∀ v : Word,
    (∀ p ∈ ([(0x01, .intStatusWrite v), (0x02, .intEnableWrite v), (0x04, .raddrWrite .high v),
        (0x05, .raddrWrite .low v), (0x09, .streamData v), (0x18, .cqPop v), (0x19, .cqTriggerWrite v),
        (0x1A, .cqAgeWrite v), (0x25, .eqPop v), (0x26, .eqTriggerWrite v), (0x27, .eqAgeWrite v)] :
        List (Offset × Instr)), hostCommand p.1 v = p.2) ∧
    hostCommand 0x00 1 = .softReset ∧ (v ≠ 1 → hostCommand 0x00 v = .configWrite 0x00 v) ∧
    hostCommand 0x07 1 = .issueWrite ∧ hostCommand 0x07 2 = .issueWriteConfirmed ∧
    hostCommand 0x07 3 = .issueRead ∧ (v ≠ 1 → v ≠ 2 → v ≠ 3 → hostCommand 0x07 v = .badKind v) ∧
    hostCommand 0x32 1 = .start ∧ hostCommand 0x32 2 = .stop ∧
    (v ≠ 1 → v ≠ 2 → hostCommand 0x32 v = .badCommand v) ∧
    ∀ offset : Offset, offset ∉ ([0x00, 0x01, 0x02, 0x04, 0x05, 0x07, 0x09, 0x18, 0x19, 0x1A, 0x25, 0x26, 0x27,
        0x32] : List Offset) → hostCommand offset v = .configWrite offset v) ∧
  ∀ (s : State) (v : Word), s.inReset = false →
    (∀ offset : Offset, (hostCommand offset v).wellFormed = true ∧
      exec (hostCommand offset v) s = .next (registerWrite s offset v)) ∧
    (∀ offset ∈ ([0x03, 0x08, 0x0A, 0x0B, 0x0C, 0x0D, 0x0E, 0x0F, 0x10, 0x11, 0x12, 0x13, 0x14, 0x15, 0x16,
        0x17, 0x1B, 0x1C, 0x1D, 0x1E, 0x1F, 0x20, 0x21, 0x22, 0x23, 0x24, 0x30, 0x33, 0x34, 0x3B, 0x3C, 0x3D,
        0x3E, 0x3F] : List Offset), exec (.configWrite offset v) s = .next s) ∧
    (v ≠ 1 → exec (.configWrite 0x00 v) s = .next s)

/-! ### Resets -/

/-- R180, R183 (reset column): the assertion of RESET_N gives every register the value of the map's pin-reset
column for every link and every window and releases the data bus (R174), and the release keeps them. The state behind
the registers is written out: the tags (R27), the stream address (R96, R105), the windows (R94), the links with the
divisor in use (R141, R163), scheduler (R50, R51), posted-write state (R69), event items (R125) and receiver (R141),
and the empty queues (R83, R125); the soft reset's statement uses the same link. The strobes are the host's (log 19);
the queue of waiting commands and the free-value counter are the model's own (logs 3 and 12). -/
def Obligations.PinResetSetsTheResetColumn : Prop :=
  (∀ s : State,
    exec .pinReset s =
      .next { State.reset with
        inReset := true, bus := { s.bus with driven := none }, freeCount := s.freeCount
        pending := s.pending } ∧
    exec .resetRelease s = .next { s with inReset := false }) ∧
  (∀ offset ∈ ([0x00, 0x01, 0x02, 0x03, 0x04, 0x05, 0x06, 0x07, 0x09, 0x0A, 0x10, 0x11, 0x12, 0x13, 0x14,
      0x15, 0x16, 0x17, 0x18, 0x1A, 0x20, 0x21, 0x22, 0x23, 0x24, 0x25, 0x27, 0x2A, 0x30, 0x31, 0x32,
      0x33] : List Offset), registerRead State.reset offset = 0) ∧
  registerRead State.reset 0x08 = 0x1E00 ∧ registerRead State.reset 0x19 = 1 ∧
  registerRead State.reset 0x26 = 1 ∧ registerRead State.reset 0x28 = 0x1808 ∧
  registerRead State.reset 0x29 = 4 ∧
  (∀ l : LinkId,
    (∀ offset ∈ ([0x34, 0x3B, 0x3C, 0x3D, 0x3E, 0x3F] : List Offset),
      registerRead { State.reset with linkSelect := l } offset = 0) ∧
    (∀ p ∈ ([(0x35, 4), (0x36, 0x10), (0x37, 0x10), (0x38, 0x1043), (0x39, 8), (0x3A, 0x28)] :
        List (Offset × Word)),
      registerRead { State.reset with linkSelect := l } p.1 = p.2)) ∧
  (∀ w : Fin 9,
    registerRead { State.reset with winSelect := w } 0x2B = (if w = 8 then 0x1808 else 0x0800) ∧
    ∀ offset ∈ ([0x2C, 0x2D, 0x2E, 0x2F] : List Offset),
      registerRead { State.reset with winSelect := w } offset = 0) ∧
  State.reset.intN = true ∧ State.reset.streamAddr = 0 ∧ State.reset.cq = [] ∧ State.reset.eq = [] ∧
  (∀ i : TagId, State.reset.tag i =
    { state := .free, gen := 0, kind := .read, link := 0, station := 0, hostAddr := 0, remoteAddr := 0,
      writeData := none, attempts := 0, timeouts := 0, busy := 0, timer := .stopped, result := none }) ∧
  (∀ k : Fin 8, State.reset.windows[k] =
    { enable := false, base := 0, exp := 8, link := 0, station := 0, remap := 0, access := .readWrite }) ∧
  State.reset.striped = { enable := false, base := 0, exp := 24, shift := 8 } ∧
  (∀ l : LinkId, State.reset.link l = Link.pinReset) ∧
  Link.pinReset =
    { ctl := { state := .off, cause := .none, trainAttempts := 0, helloTimer := none, discards := 0,
               firstDiscard := none, stale := 0 }
      cfg := { rate := 4, divisor := 4, replyTo := 16, replayTo := 16, delay := 8, hold := 40, retryLimit := 3,
               busyLimit := 16, replayLimit := 4 }
      sch := { tx := .idle, txq := [], resend := [], ready := [], pendingPause := .none,
               helloAckPending := false, lastPause := .none, helloDue := false, outPause := false,
               holdTimer := none }
      pst := { nextSeq := 0, replay := [], timer := none, pass := .none, attempts := 0, duplicates := 0 }
      evs := { count := 0, lost := 0, paused := false, pauseRepeat := 0 }
      rcv := { framing := .hunting, kept := [], byteCount := 0, badMark := false, consecutiveBad := 0,
               badFrames := 0 } }

/-- R181: the soft reset clears the traffic state and keeps the configuration. Every tag is FREE with its
generation kept, and its result is made absent (log 9, the model's choice); a frame on the line is aborted (R49) at a
byte the statement leaves open (log 3); no host register keeps traffic, and the configuration registers read as
before. -/
def Obligations.SoftResetClearsTheTraffic : Prop :=
  ∀ s : State, s.inReset = false →
    ∃ t, exec .softReset s = .next t ∧
      t = { s with
        cq := [], eq := [], sticky := 0, freeCount := t.freeCount, tags := t.tags, links := t.links
        issueResult := { outcome := .none, window := none, link := none, tag := none }
        cmdResult := { outcome := .none, command := .other, link := 0 } } ∧
      (∀ i : TagId,
        t.tag i = { s.tag i with state := .free, timer := .stopped, result := none }) ∧
      (∀ l : LinkId,
        t.link l = { Link.pinReset with
          cfg := (s.link l).cfg
          sch := { Scheduler.pinReset with tx := (t.link l).sch.tx } } ∧
        AbortedTo (s.link l).sch.tx (t.link l).sch.tx) ∧
      intStatus t = 0 ∧ t.intN = true ∧ tagsInUse t = 0 ∧ registerRead t 0x08 = 0x1E00 ∧
      (∀ offset ∈ ([0x01, 0x0A, 0x10, 0x11, 0x12, 0x13, 0x14, 0x15, 0x16, 0x17, 0x20, 0x21, 0x22, 0x23, 0x24,
          0x33, 0x34, 0x3B, 0x3C, 0x3D, 0x3E, 0x3F] : List Offset), registerRead t offset = 0) ∧
      (∀ offset ∈ ([0x02, 0x03, 0x04, 0x05, 0x06, 0x19, 0x1A, 0x26, 0x27, 0x28, 0x29, 0x2A, 0x2B, 0x2C, 0x2D,
          0x2E, 0x2F, 0x30, 0x31, 0x35, 0x36, 0x37, 0x38, 0x39, 0x3A] : List Offset),
        registerRead t offset = registerRead s offset)

/-! ### Invariants of the machine -/

/-- Every invariant holds of the state that the pin reset leaves, the data bus among them: nothing is driven
(R174). -/
def Obligations.ResetIsSound : Prop := Sound State.reset

/-- R84, R85, R78, R79, R114, R117, R123, R8, R171: every step keeps each configuration register in its range. -/
def Obligations.StepKeepsTheConfigurationLegal : Prop :=
  ∀ s t : State, ConfigLegal s → step s = .next t → ConfigLegal t

/-- R108, last sentence: every step keeps the event queue within 64 records and each link's event count at the
number of its records. -/
def Obligations.StepKeepsTheEventCounts : Prop :=
  ∀ s t : State, EventCountsAgree s → step s = .next t → EventCountsAgree t

/-- R35: no step puts, or leaves, an RD or WRC frame on the line of a link for a station for which the link's
replay list holds a posted write: no entry of the list is for that station. -/
def Obligations.StepKeepsTheStationOrder : Prop :=
  ∀ s t : State, OrderKept s → step s = .next t → OrderKept t

/-- R120, last sentence: a RESUME stays pending only while the stations last saw PAUSE, and a pause frame only
in UP. -/
def Obligations.StepKeepsResumeAfterPause : Prop :=
  ∀ s t : State, ResumeFollowsPause s → step s = .next t → ResumeFollowsPause t

/-- R20: every step keeps one record for each COMPLETE tag, holding what the tag holds, and no other record. -/
def Obligations.StepKeepsTheRecords : Prop :=
  ∀ s t : State, Sound s → step s = .next t → RecordsAgree t

/-- R2, R29: every step keeps each QUEUED, READY and unpicked RESEND tag in its one place, and no other tag in
any. -/
def Obligations.StepKeepsTheReferences : Prop :=
  ∀ s t : State, Sound s → step s = .next t → ReferencesAgree t

/-- R54, last sentence: every step keeps each replay list at 8 entries or fewer with consecutive numbers up to
next_seq. -/
def Obligations.StepKeepsTheReplayNumbers : Prop :=
  ∀ s t : State, Sound s → step s = .next t → ReplayNumbered t

/-- R157, last sentence: every step keeps a link that is not UP without traffic and without tags in flight. -/
def Obligations.StepKeepsQuietLinks : Prop :=
  ∀ s t : State, Sound s → step s = .next t → QuietUnlessUp t

/-- R38: after every step, a link whose transmitter is IDLE has no eligible frame. -/
def Obligations.StepKeepsIdleTransmittersIdle : Prop :=
  ∀ s t : State, Sound s → step s = .next t → IdleHasNothing t

/-- Every step keeps all the invariants together, and so does every edge of a strobe, an operation beside the
step (log 19): the part drives the data bus in a read alone (R174), and an edge that ends a write leaves what the
write's command leaves. -/
def Obligations.StepKeepsSound : Prop :=
  (∀ s t : State, Sound s → step s = .next t → Sound t) ∧
  ∀ (s t : State) (strobe : Strobe) (high : Bool) (offset : Offset) (data : Word), Sound s →
    busEdge strobe high offset data s = .next t → Sound t

/-! ### Frames and the line -/

/-- R131, R128 to R130, R134, R136: the body of each frame that a station sends, byte by byte, with its kind code in the
header; and each such frame, encoded on the line, is taken by a receiver in HUNTING byte by byte, closes at its last
byte and is judged as that frame. -/
def Obligations.StationFramesAreReceived : Prop :=
  (∀ (st : StationId) (b c : Byte) (w : Word),
    let header (kind : Nat) : Byte := BitVec.ofNat 8 (16 * kind + st.val)
    let word : List Byte := [BitVec.ofNat 8 (w.toNat / 256), BitVec.ofNat 8 w.toNat]
    stationBody (.hello st b) = [header 1, b] ∧ stationBody (.helloAck st b) = [header 2, b] ∧
    stationBody (.ackp st b) = [header 6, b] ∧ stationBody (.done st b) = [header 7, b] ∧
    stationBody (.data st b w) = [header 8, b] ++ word ∧ stationBody (.retry st b) = [header 9, b] ∧
    stationBody (.fault st b c) = [header 10, b, c] ∧ stationBody (.evt st b w) = [header 11, b] ++ word ∧
    stationBody (.pause st b) = [header 12, b] ∧ stationBody (.resume st b) = [header 13, b]) ∧
  ∀ (r : Receiver) (f : RxFrame), r.framing = .hunting →
    let r' := (frameOnLine (stationBody f)).dropLast.foldl Receiver.take r
    (frameOnLine (stationBody f)).getLast? = some 0xA5 ∧
    r'.closes 0xA5 = true ∧ r'.judge = some f

/-- R128 to R132: the bytes of each frame that the bridge sends. The body by kind, the CRC bit by bit over it (with the
data sheet's HELLO as a whole), and flags and stuffing. R49, R135: a frame aborted at an escape byte is followed by a
flag, at its closing flag by nothing, and at every other byte by an escape and a flag; with that sequence it is
discarded by a receiver at the sequence's last byte. R126, R37: the ten levels of a byte on the line, of which the
receiver does not check the stop bit, the bytes on a line by the state of its transmitter, and the time they take. -/
def Obligations.BridgeFramesAreSentAndAborted : Prop :=
  (frameBody .hello = [0x10, 1] ∧ frameBody .helloAck = [0x20, 1] ∧
    frameBody .pause = [0xC0, 0] ∧ frameBody .resume = [0xD0, 0] ∧
    ∀ (seq : Seq) (tag : TagId) (gen : Gen) (st : StationId) (a : Addr) (data : Word),
      let byte (n : Nat) : Byte := BitVec.ofNat 8 n
      let addr : List Byte := [byte (a.toNat / 65536), byte (a.toNat / 256), byte a.toNat]
      let word : List Byte := [byte (data.toNat / 256), byte data.toNat]
      frameBody (.wr seq st a data) = [byte (48 + st.val), byte seq.toNat] ++ addr ++ word ∧
      frameBody (.wrc tag gen st a data) =
        [byte (64 + st.val), byte (32 * gen.toNat + tag.val)] ++ addr ++ word ∧
      frameBody (.rd tag gen st a) = [byte (80 + st.val), byte (32 * gen.toNat + tag.val)] ++ addr) ∧
  (crc [] = 0xFFFF ∧ ∀ (body : List Byte) (b : Byte),
    crc (body ++ [b]) = [7, 6, 5, 4, 3, 2, 1, 0].foldl (fun (r : Word) n =>
      if r.getLsbD 15 ^^ b.getLsbD n then (r <<< 1) ^^^ 0x1021 else r <<< 1) (crc body)) ∧
  lineBytes .hello = [0xA5, 0x10, 0x01, 0x0E, 0x5D, 0xA5] ∧
  (∀ f : TxFrame, lineBytes f = frameOnLine (frameBody f)) ∧
  (∀ body : List Byte,
    frameOnLine body =
      [0xA5] ++ (body ++ [BitVec.ofNat 8 ((crc body).toNat / 256), BitVec.ofNat 8 (crc body).toNat]).flatMap
        (fun b => if b = 0xA5 then [0x5A, 0x85] else if b = 0x5A then [0x5A, 0x7A] else [b]) ++ [0xA5]) ∧
  (∀ (b : Byte) (stop : Bool),
    lineBits b = [false, b.getLsbD 0, b.getLsbD 1, b.getLsbD 2, b.getLsbD 3, b.getLsbD 4, b.getLsbD 5,
      b.getLsbD 6, b.getLsbD 7, true] ∧
    sampledByte ((lineBits b).dropLast ++ [stop]) = b) ∧
  (∀ (s : State) (l : LinkId),
    s.txLine l = (match (s.link l).sch.tx with
      | .idle => []
      | .sending f _ => lineBytes f
      | .aborting rest => rest) ∧
    s.txClocks l = 10 * (4 * (s.link l).cfg.divisor) * (s.txLine l).length) ∧
  ∀ (r : Receiver) (f : TxFrame) (point : Nat), r.framing = .hunting →
    point < (lineBytes f).length →
    (point + 1 = (lineBytes f).length → abortRest f point = []) ∧
    (point + 1 < (lineBytes f).length →
      let bytes := (lineBytes f).take (point + 1) ++ abortRest f point
      abortRest f point = (if (lineBytes f)[point]? = some 0x5A then [0xA5] else [0x5A, 0xA5]) ∧
      bytes.getLast? = some 0xA5 ∧ (bytes.dropLast.foldl Receiver.take r).aborts 0xA5 = true ∧
      ∀ n, n + 1 < bytes.length → ∀ b, bytes[n]? = some b →
        ((bytes.take n).foldl Receiver.take r).closes b = false)

/-- R136, R131: a frame that meets any of the five items is malformed, with the body and CRC length of each kind that a
station sends in numbers. The kept bytes are the first nine of the byte count. -/
def Obligations.MalformedFramesAreRefused : Prop :=
  ∀ r : Receiver, r.kept.length = min 9 r.byteCount →
    (r.badMark = true → r.judge = none) ∧
    (r.byteCount < 4 → r.judge = none) ∧
    (∀ h rest, r.kept = h :: rest →
      (rxLength (h.toNat / 16) ≠ some r.byteCount → r.judge = none) ∧
      (h.toNat / 16 ∈ [1, 2, 6, 7, 9, 12, 13] → r.byteCount ≠ 4 → r.judge = none) ∧
      (h.toNat / 16 = 10 → r.byteCount ≠ 5 → r.judge = none) ∧
      (h.toNat / 16 ∈ [8, 11] → r.byteCount ≠ 6 → r.judge = none) ∧
      (h.toNat / 16 ∈ [0, 3, 4, 5, 14, 15] → r.judge = none) ∧
      (h.getLsbD 3 = true → r.judge = none)) ∧
    (∀ body c1 c2, r.kept = body ++ [c1, c2] → r.byteCount = body.length + 2 →
      [BitVec.ofNat 8 ((crc body).toNat / 256), BitVec.ofNat 8 (crc body).toNat] ≠ [c1, c2] → r.judge = none)

/-! ### Address decode -/

/-- R86, R87: matching, target and translation of a directed window and of WS, in numbers. -/
def Obligations.WindowsMatchAndTranslate : Prop :=
  (∀ (s : State) (k : Fin 8) (a : Addr),
    let w := s.windows[k]
    8 ≤ w.exp → w.exp ≤ 24 →
    (w.hits a = true ↔ w.enable = true ∧ a.toNat / 2 ^ w.exp = w.base.toNat / 2 ^ w.exp) ∧
    (directedTarget s k a).window.val = k.val ∧ (directedTarget s k a).link = w.link ∧
    (directedTarget s k a).station = w.station ∧ (directedTarget s k a).access = w.access ∧
    (directedTarget s k a).remoteAddr.toNat =
      w.remap.toNat / 2 ^ w.exp * 2 ^ w.exp + a.toNat % 2 ^ w.exp) ∧
  ∀ (s : State) (a : Addr),
    let w := s.striped
    (w.hits a = true ↔ w.enable = true ∧ w.shift + 5 ≤ w.exp ∧
      a.toNat / 2 ^ w.exp = w.base.toNat / 2 ^ w.exp) ∧
    (stripedTarget s a).window = 8 ∧
    (stripedTarget s a).link.val = a.toNat / 2 ^ w.shift % 4 ∧
    (stripedTarget s a).station.val = a.toNat / 2 ^ (w.shift + 2) % 8 ∧
    (stripedTarget s a).remoteAddr = a ∧ (stripedTarget s a).access = .readWrite

/-- R88: the lowest-numbered directed window that matches, else WS, else a miss. -/
def Obligations.DecodeTakesTheLowestWindow : Prop :=
  ∀ (s : State) (a : Addr),
    (∀ k : Fin 8, s.windows[k].hits a = true → (∀ j : Fin 8, j < k → s.windows[j].hits a = false) →
      decode s a = some (directedTarget s k a)) ∧
    ((∀ k : Fin 8, s.windows[k].hits a = false) →
      (s.striped.hits a = true → decode s a = some (stripedTarget s a)) ∧
      (s.striped.hits a = false → decode s a = none))

/-! ### Issue -/

/-- R99, R102: a WRITE that passes its checks is appended at the tail of the transmit queue of its link, and
ISSUE_RESULT reports it; a stream write also moves the stream address on by one. -/
def Obligations.PostedIssueIsQueued : Prop :=
  ∀ (s : State) (target : Target) (data : Word), s.inReset = false →
    target.access = .readWrite → (s.link target.link).ctl.state = .up →
    (s.link target.link).sch.ready.length < 16 - (s.link target.link).sch.txq.length →
    let queued (addr : Addr) (word : Word) : State :=
      ({ s with issueResult :=
          { outcome := .accepted, window := some target.window, link := some target.link,
            tag := none } }).onLink target.link (fun k => { k with sch := { k.sch with
        txq := k.sch.txq ++ [QEntry.posted
          { station := target.station, remoteAddr := target.remoteAddr, data := word,
            hostAddr := addr }] } })
    (decode s (s.raddrH ++ s.raddrL) = some target →
      exec .issueWrite s =
        .next (schedule (queued (s.raddrH ++ s.raddrL) s.wdata) target.link)) ∧
    (decode s s.streamAddr = some target →
      exec (.streamData data) s =
        .next { schedule (queued s.streamAddr data) target.link with streamAddr := s.streamAddr + 1 })

/-- R3, R99, R106: a READ or WRITE_CONFIRMED that passes its checks takes the lowest-numbered FREE tag, loads
it, and appends a reference to it; TAGS_IN_USE rises by one. -/
def Obligations.TaggedIssueTakesTheLowestTag : Prop :=
  ∀ (s : State) (target : Target) (kind : ReqKind) (i : TagId), s.inReset = false →
    (kind = .writeConfirmed → target.access = .readWrite) →
    (s.link target.link).ctl.state = .up → (s.link target.link).sch.txq.length < 16 →
    (s.link target.link).QueueFits →
    decode s (s.raddrH ++ s.raddrL) = some target →
    (s.tag i).state = .free → (∀ j, j < i → (s.tag j).state ≠ .free) →
    let command : Instr := if kind = .read then .issueRead else .issueWriteConfirmed
    let tag : Tag :=
      { state := .queued, gen := (s.tag i).gen + 1, kind := kind, link := target.link,
        station := target.station, hostAddr := s.raddrH ++ s.raddrL, remoteAddr := target.remoteAddr,
        writeData := if kind = .read then none else some s.wdata,
        attempts := 0, timeouts := 0, busy := 0, timer := .stopped, result := none }
    ∃ t, exec command s = .next t ∧
      t = schedule ((({ s with issueResult :=
        { outcome := .accepted, window := some target.window, link := some target.link,
          tag := some (i, tag.gen) } }).setTag i tag).onLink target.link
          (fun k => { k with sch := { k.sch with txq := k.sch.txq ++ [QEntry.ref i] } })) target.link ∧
      t.tag i = tag ∧ (∀ j, j ≠ i → t.tag j = s.tag j) ∧ tagsInUse t = tagsInUse s + 1

/-- R97, R98, R103: the checks in their order. A refused attempt through ISSUE changes ISSUE_RESULT alone; a
refused stream write also sets ISSUE_REFUSED. -/
def Obligations.IssueIsRefusedInOrder : Prop :=
  ∀ s : State, s.inReset = false →
    let result (o : IssueOutcome) (t : Option Target) : State := { s with issueResult :=
      { outcome := o, window := t.map (·.window), link := t.map (·.link), tag := none } }
    let full (t : Target) : Prop :=
      16 - (s.link t.link).sch.txq.length ≤ (s.link t.link).sch.ready.length
    (∀ v : Word, v ≠ 1 → v ≠ 2 → v ≠ 3 → exec (.badKind v) s = .next (result .badKind none)) ∧
    (∀ c ∈ [Instr.issueWrite, .issueWriteConfirmed, .issueRead],
      (decode s (s.raddrH ++ s.raddrL) = none → exec c s = .next (result .noTarget none)) ∧
      ∀ t, decode s (s.raddrH ++ s.raddrL) = some t →
        (t.access = .readOnly → c ≠ .issueRead →
          exec c s = .next (result .protectedTarget (some t))) ∧
        (t.access = .readWrite ∨ c = .issueRead → (s.link t.link).ctl.state ≠ .up →
          exec c s = .next (result .linkNotUp (some t))) ∧
        (t.access = .readWrite ∨ c = .issueRead → (s.link t.link).ctl.state = .up → full t →
          exec c s = .next (result .queueFull (some t))) ∧
        (t.access = .readWrite ∨ c = .issueRead → (s.link t.link).ctl.state = .up → ¬full t →
          c ≠ .issueWrite → (∀ i : TagId, (s.tag i).state ≠ .free) →
          exec c s = .next (result .noTag (some t)))) ∧
    ∀ data : Word,
      let refused (o : IssueOutcome) (t : Option Target) : State :=
        { result o t with sticky := s.sticky ||| 0x4000 }
      (decode s s.streamAddr = none → exec (.streamData data) s = .next (refused .noTarget none)) ∧
      ∀ t, decode s s.streamAddr = some t →
        (t.access = .readOnly →
          exec (.streamData data) s = .next (refused .protectedTarget (some t))) ∧
        (t.access = .readWrite → (s.link t.link).ctl.state ≠ .up →
          exec (.streamData data) s = .next (refused .linkNotUp (some t))) ∧
        (t.access = .readWrite → (s.link t.link).ctl.state = .up → full t →
          exec (.streamData data) s = .next (refused .queueFull (some t)))

/-! ### The two queues -/

/-- R76, R22: a pop removes the head record and frees its tag, which keeps its generation; the tag's result is made
absent (log 9, the model's choice). TAGS_IN_USE falls by one where records and tags agree. A pop of an empty queue is
ignored. -/
def Obligations.CqPopFreesTheTag : Prop :=
  ∀ (s : State) (v : Word), s.inReset = false →
    (s.cq = [] → exec (.cqPop v) s = .next s) ∧
    ∀ r rest, s.cq = r :: rest →
      ∃ t, exec (.cqPop v) s = .next t ∧
        t = { s with cq := rest }.setTag r.index
          { s.tag r.index with state := .free, timer := .stopped, result := none } ∧
        (RecordsAgree s → tagsInUse t + 1 = tagsInUse s)

/-- R113, R118: a pop removes the head record and lowers its link's event count; a link that is UP and paused is
released where the count is down to the low threshold: an ask for RESUME, as `PauseAsksFollowTheTables` states it. A pop
of an empty queue is ignored. -/
def Obligations.EqPopReleasesTheLink : Prop :=
  ∀ (s : State) (v : Word), s.inReset = false →
    (s.eq = [] → exec (.eqPop v) s = .next s) ∧
    ∀ r rest, s.eq = r :: rest →
      let k := s.link r.link
      let count := k.evs.count - 1
      (¬(k.ctl.state = .up ∧ k.evs.paused = true ∧ count ≤ s.lowThreshold) →
        exec (.eqPop v) s = .next (schedule ({ s with eq := rest }.setLink r.link
          { k with evs := { k.evs with count := count } }) r.link)) ∧
      (k.ctl.state = .up → k.evs.paused = true → count ≤ s.lowThreshold →
        exec (.eqPop v) s = .next (schedule ({ s with eq := rest }.setLink r.link
          { k with
            evs := { k.evs with count := count, paused := false, pauseRepeat := 0 }
            sch := { k.sch with
              pendingPause := resumeOutcome k.sch.pendingPause k.sch.lastPause } }) r.link))

/-- R119, R120: what an ask for PAUSE and an ask for RESUME leave pending, row by row. A RESUME pending while the last
pause frame sent is not PAUSE has no row in R120, and every step keeps clear of it (`StepKeepsResumeAfterPause`, log
15): what an ask leaves there is not stated. -/
def Obligations.PauseAsksFollowTheTables : Prop :=
  ∀ k : Link,
    k.askPause = { k with sch := { k.sch with pendingPause := .pause } } ∧
    k.askResume = { k with sch := { k.sch with pendingPause := k.askResume.sch.pendingPause } } ∧
    k.askResume.sch.pendingPause = resumeOutcome k.sch.pendingPause k.sch.lastPause ∧
    (k.sch.pendingPause = .pause → k.sch.lastPause ≠ .pause → k.askResume.sch.pendingPause = .none) ∧
    (k.sch.pendingPause = .pause → k.sch.lastPause = .pause → k.askResume.sch.pendingPause = .resume) ∧
    (k.sch.pendingPause = .none → k.sch.lastPause = .pause → k.askResume.sch.pendingPause = .resume) ∧
    (k.sch.pendingPause = .none → k.sch.lastPause ≠ .pause → k.askResume.sch.pendingPause = .none) ∧
    (k.sch.pendingPause = .resume → k.sch.lastPause = .pause → k.askResume.sch.pendingPause = .resume)

/-- R75, R95, R106, R112, R164, R178: the heads of the two queues, the two reports, TAGS_IN_USE, and the status and
statistics registers of the link that LINK_SELECT names, in numbers. Each head register reads 0 while its queue is
empty, and the valid bit of EQ_HEAD_SRC tells a head from an empty queue. R175: the write-only registers and the
unassigned offsets read 0. -/
def Obligations.HeadsReportsAndStatusRead : Prop :=
  let status : Status → Nat
    | .ok => 1
    | .remoteFault => 2
    | .timeout => 3
    | .busy => 4
    | .linkStopped => 5
    | .linkDown => 6
    | .partnerReset => 7
  let kind : ReqKind → Nat
    | .read => 0
    | .writeConfirmed => 1
  let outcome : IssueOutcome → Nat
    | .none => 0
    | .accepted => 1
    | .badKind => 2
    | .noTarget => 3
    | .protectedTarget => 4
    | .linkNotUp => 5
    | .queueFull => 6
    | .noTag => 7
  let taken : CmdOutcome → Nat
    | .none => 0
    | .taken => 1
    | .ignored => 2
    | .badCommand => 3
  let command : CmdCode → Nat
    | .other => 0
    | .start => 1
    | .stop => 2
  let linkState : LinkState → Nat
    | .off => 0
    | .training => 1
    | .up => 2
    | .failed => 3
  let cause : FailCause → Nat
    | .none => 0
    | .trainExhausted => 1
    | .replayExhausted => 2
    | .badFrames => 3
  ∀ s : State,
    let k := s.link s.linkSelect
    (registerRead s 0x10 = BitVec.ofNat 16 s.cq.length ∧
      (s.cq = [] → ∀ offset ∈ ([0x11, 0x12, 0x13, 0x14, 0x15, 0x16, 0x17] : List Offset),
        registerRead s offset = 0) ∧
      ∀ r rest, s.cq = r :: rest → r.attempts ≤ 255 → r.busy ≤ 255 →
        (registerRead s 0x11).toNat =
          256 * status r.status + 128 * kind r.kind + 32 * r.gen.toNat + r.index.val ∧
        (registerRead s 0x12).toNat =
          2048 * r.link.val + 256 * r.station.val + r.hostAddr.toNat / 65536 ∧
        (registerRead s 0x13).toNat = r.hostAddr.toNat % 65536 ∧
        (registerRead s 0x14).toNat = 256 * (r.faultCode.getD 0).toNat + r.remoteAddr.toNat / 65536 ∧
        (registerRead s 0x15).toNat = r.remoteAddr.toNat % 65536 ∧
        registerRead s 0x16 = r.readData.getD 0 ∧
        (registerRead s 0x17).toNat = 256 * r.busy + r.attempts) ∧
    (registerRead s 0x20 = BitVec.ofNat 16 s.eq.length ∧
      (s.eq = [] → ∀ offset ∈ ([0x21, 0x22, 0x23, 0x24] : List Offset), registerRead s offset = 0) ∧
      ∀ r rest, s.eq = r :: rest → r.lostBefore ≤ 255 →
        (registerRead s 0x21).toNat = 32768 + 2048 * r.link.val + 256 * r.station.val + r.lostBefore ∧
        (registerRead s 0x22).toNat = r.code.toNat ∧
        registerRead s 0x23 = r.payload ∧ registerRead s 0x24 = r.time) ∧
    (registerRead s 0x08).toNat =
      8192 * outcome s.issueResult.outcome + 512 * (s.issueResult.window.elim 15 (·.val)) +
        128 * (s.issueResult.link.elim 0 (·.val)) +
        s.issueResult.tag.elim 0 (fun t => 32 * t.2.toNat + t.1.val) ∧
    (registerRead s 0x0A).toNat = tagsInUse s ∧
    tagsInUse s = (List.finRange 32).countP (fun i => decide ((s.tag i).state ≠ .free)) ∧
    (registerRead s 0x33).toNat =
      taken s.cmdResult.outcome + 16 * command s.cmdResult.command + 256 * s.cmdResult.link.val ∧
    (k.ctl.trainAttempts ≤ 31 → (registerRead s 0x34).toNat =
      linkState k.ctl.state + 4 * cause k.ctl.cause + 16 * k.sch.outPause.toNat + 32 * k.evs.paused.toNat +
        64 * (if k.pst.pass = .none then 0 else 1) + 128 * k.ctl.firstDiscard.isSome.toNat +
        256 * k.ctl.trainAttempts) ∧
    (k.evs.count ≤ 64 → k.pst.replay.length ≤ 8 → k.sch.txq.length ≤ 16 → (registerRead s 0x3B).toNat =
      512 * k.evs.count + 32 * k.pst.replay.length +
        (if k.sch.ready = [] then k.sch.txq.length else min 31 (16 + k.sch.ready.length))) ∧
    (k.ctl.discards ≤ 255 → k.ctl.stale ≤ 255 →
      (registerRead s 0x3C).toNat = 256 * k.ctl.discards + k.ctl.stale) ∧
    (k.rcv.badFrames ≤ 65535 → (registerRead s 0x3D).toNat = k.rcv.badFrames) ∧
    (registerRead s 0x3E).toNat = (k.ctl.firstDiscard.getD 0).toNat / 65536 ∧
    (registerRead s 0x3F).toNat = (k.ctl.firstDiscard.getD 0).toNat % 65536 ∧
    ∀ offset ∈ ([0x00, 0x07, 0x09, 0x18, 0x25, 0x32, 0x0B, 0x0C, 0x0D, 0x0E, 0x0F, 0x1B, 0x1C, 0x1D, 0x1E,
      0x1F] : List Offset), registerRead s offset = 0

/-- R93, R95, R78, R79, R112, R165, R171, R178: WIN_STATUS, the registers of the window that WIN_SELECT names, and
every other register that reads what it holds, in numbers. -/
def Obligations.ConfigurationReads : Prop :=
  ∀ s : State,
    let c := (s.link s.linkSelect).cfg
    ((∀ k : Fin 8, (registerRead s 0x30).getLsbD k.val = s.windows[k].enable) ∧
      (registerRead s 0x30).getLsbD 8 = s.striped.enable ∧
      (∀ n, 9 ≤ n → n ≤ 14 → (registerRead s 0x30).getLsbD n = false) ∧
      ((registerRead s 0x30).getLsbD 15 = true ↔ s.striped.exp < s.striped.shift + 5)) ∧
    (∀ k : Fin 8, s.winSelect.val = k.val →
      let w := s.windows[k]
      (w.exp ≤ 24 → (registerRead s 0x2B).toNat =
        32768 * w.enable.toNat + 16384 * (if w.access = .readOnly then 1 else 0) + 256 * w.exp +
          16 * w.link.val + w.station.val) ∧
      (registerRead s 0x2C).toNat = w.base.toNat / 65536 ∧
      (registerRead s 0x2D).toNat = w.base.toNat % 65536 ∧
      (registerRead s 0x2E).toNat = w.remap.toNat / 65536 ∧
      (registerRead s 0x2F).toNat = w.remap.toNat % 65536) ∧
    (s.winSelect = 8 →
      (s.striped.exp ≤ 24 → s.striped.shift ≤ 19 → (registerRead s 0x2B).toNat =
        32768 * s.striped.enable.toNat + 256 * s.striped.exp + s.striped.shift) ∧
      (registerRead s 0x2C).toNat = s.striped.base.toNat / 65536 ∧
      (registerRead s 0x2D).toNat = s.striped.base.toNat % 65536 ∧
      registerRead s 0x2E = 0 ∧ registerRead s 0x2F = 0) ∧
    (registerRead s 0x02 = s.intEnable ∧ registerRead s 0x03 = s.usCount ∧
      (registerRead s 0x04).toNat = s.raddrH.toNat ∧ registerRead s 0x05 = s.raddrL ∧
      registerRead s 0x06 = s.wdata ∧ (registerRead s 0x2A).toNat = s.winSelect.val ∧
      (registerRead s 0x31).toNat = s.linkSelect.val) ∧
    (∀ p ∈ ([(0x19, s.cqTrigger), (0x1A, s.cqAge), (0x26, s.eqTrigger), (0x27, s.eqAge), (0x29, s.repeatK),
        (0x35, c.rate), (0x36, c.replyTo), (0x37, c.replayTo), (0x39, c.delay), (0x3A, c.hold)] :
        List (Offset × Nat)), registerRead s p.1 = BitVec.ofNat 16 p.2) ∧
    (s.highThreshold ≤ 63 → s.lowThreshold ≤ 63 →
      (registerRead s 0x28).toNat = 256 * s.highThreshold + s.lowThreshold) ∧
    (c.busyLimit ≤ 255 → c.replayLimit ≤ 15 → c.retryLimit ≤ 7 →
      (registerRead s 0x38).toNat = 256 * c.busyLimit + 16 * c.replayLimit + c.retryLimit)

/-! ### Configuration writes -/

/-- R96, R78, R79, R114, R123, R117, R90, R143: each shared register takes a written value of its range, and any
other value is ignored and sets CONFIG_ERROR; a write to RADDR_H or RADDR_L also loads the stream address. -/
def Obligations.SharedRegistersTakeValuesInRange : Prop :=
  ∀ (s : State) (v : Word), s.inReset = false →
    let bad : State := { s with sticky := s.sticky ||| 0x2000 }
    exec (.raddrWrite .high v) s =
      .next { s with raddrH := v.setWidth 8, streamAddr := v.setWidth 8 ++ s.raddrL } ∧
    exec (.raddrWrite .low v) s = .next { s with raddrL := v, streamAddr := s.raddrH ++ v } ∧
    exec (.configWrite 0x06 v) s = .next { s with wdata := v } ∧
    exec (.cqTriggerWrite v) s =
      .next (if 1 ≤ v.toNat ∧ v.toNat ≤ 32 then { s with cqTrigger := v.toNat } else bad) ∧
    exec (.cqAgeWrite v) s = .next (if v.toNat ≤ 255 then { s with cqAge := v.toNat } else bad) ∧
    exec (.eqTriggerWrite v) s =
      .next (if 1 ≤ v.toNat ∧ v.toNat ≤ 64 then { s with eqTrigger := v.toNat } else bad) ∧
    exec (.eqAgeWrite v) s = .next (if v.toNat ≤ 255 then { s with eqAge := v.toNat } else bad) ∧
    (∀ high low : Nat, 1 ≤ high → high ≤ 63 → low < high → v.toNat = 256 * high + low →
      exec (.configWrite 0x28 v) s = .next { s with highThreshold := high, lowThreshold := low }) ∧
    ((∀ high low : Nat, 1 ≤ high → high ≤ 63 → low < high → v.toNat ≠ 256 * high + low) →
      exec (.configWrite 0x28 v) s = .next bad) ∧
    (v.toNat ∈ [1, 2, 4, 8] → exec (.configWrite 0x29 v) s = .next { s with repeatK := v.toNat }) ∧
    (v.toNat ∉ [1, 2, 4, 8] → exec (.configWrite 0x29 v) s = .next bad) ∧
    (∀ w : Fin 9, v.toNat = w.val → exec (.configWrite 0x2A v) s = .next { s with winSelect := w }) ∧
    (9 ≤ v.toNat → exec (.configWrite 0x2A v) s = .next bad) ∧
    (∀ l : LinkId, v.toNat = l.val → exec (.configWrite 0x31 v) s = .next { s with linkSelect := l }) ∧
    (4 ≤ v.toNat → exec (.configWrite 0x31 v) s = .next bad)

/-- R91, R92: a write to WIN_CTRL in range replaces all the fields it carries of the selected window, and one out
of range is ignored as a whole; the base and remap writes replace their part. That a WIN_REMAP_H write above 255 with
WS selected sets no CONFIG_ERROR is the model's choice (log 16, DEDUCED: R92 over R178). -/
def Obligations.WindowWritesReplaceTheirFields : Prop :=
  ∀ (s : State) (v : Word), s.inReset = false →
    let bad : State := { s with sticky := s.sticky ||| 0x2000 }
    (∀ k : Fin 8, s.winSelect.val = k.val →
      let w := s.windows[k]
      let set (w : DirWindow) : State := { s with windows := s.windows.set k w }
      (∀ (en ro : Bool) (e : Nat) (link : LinkId) (station : StationId), 8 ≤ e → e ≤ 24 →
        v.toNat = 32768 * en.toNat + 16384 * ro.toNat + 256 * e + 16 * link.val + station.val →
        exec (.configWrite 0x2B v) s = .next (set { w with
          enable := en, access := if ro then .readOnly else .readWrite, exp := e, link := link,
          station := station })) ∧
      ((∀ (en ro : Bool) (e : Nat) (link : LinkId) (station : StationId), 8 ≤ e → e ≤ 24 →
        v.toNat ≠ 32768 * en.toNat + 16384 * ro.toNat + 256 * e + 16 * link.val + station.val) →
        exec (.configWrite 0x2B v) s = .next bad) ∧
      exec (.configWrite 0x2C v) s = .next (if v.toNat ≤ 255 then
        set { w with base := v.setWidth 8 ++ w.base.setWidth 16 } else bad) ∧
      exec (.configWrite 0x2D v) s = .next (set { w with base := w.base.extractLsb' 16 8 ++ v }) ∧
      exec (.configWrite 0x2E v) s = .next (if v.toNat ≤ 255 then
        set { w with remap := v.setWidth 8 ++ w.remap.setWidth 16 } else bad) ∧
      exec (.configWrite 0x2F v) s = .next (set { w with remap := w.remap.extractLsb' 16 8 ++ v })) ∧
    (s.winSelect = 8 →
      let w := s.striped
      (∀ (en : Bool) (e shift : Nat), 14 ≤ e → e ≤ 24 → 8 ≤ shift → shift ≤ 19 →
        v.toNat = 32768 * en.toNat + 256 * e + shift →
        exec (.configWrite 0x2B v) s =
          .next { s with striped := { w with enable := en, exp := e, shift := shift } }) ∧
      ((∀ (en : Bool) (e shift : Nat), 14 ≤ e → e ≤ 24 → 8 ≤ shift → shift ≤ 19 →
        v.toNat ≠ 32768 * en.toNat + 256 * e + shift) →
        exec (.configWrite 0x2B v) s = .next bad) ∧
      exec (.configWrite 0x2C v) s = .next (if v.toNat ≤ 255 then
        { s with striped := { w with base := v.setWidth 8 ++ w.base.setWidth 16 } } else bad) ∧
      exec (.configWrite 0x2D v) s =
        .next { s with striped := { w with base := w.base.extractLsb' 16 8 ++ v } } ∧
      exec (.configWrite 0x2E v) s = .next s ∧
      exec (.configWrite 0x2F v) s = .next s)

/-- R8, R44, R56, R127, R177, R178, R179: a write to a per-link register changes the value held for the link that
LINK_SELECT names and nothing else; a value out of range is ignored as a whole and sets CONFIG_ERROR. -/
def Obligations.LinkConfigurationWrites : Prop :=
  ∀ (s : State) (v : Word), s.inReset = false →
    let bad : State := { s with sticky := s.sticky ||| 0x2000 }
    let k := s.link s.linkSelect
    let held (c : LinkConfig) : State := s.setLink s.linkSelect { k with cfg := c }
    (1 ≤ v.toNat → v.toNat ≤ 255 →
      exec (.configWrite 0x35 v) s = .next (held { k.cfg with rate := v.toNat }) ∧
      exec (.configWrite 0x36 v) s = .next (held { k.cfg with replyTo := v.toNat }) ∧
      exec (.configWrite 0x37 v) s = .next (held { k.cfg with replayTo := v.toNat }) ∧
      exec (.configWrite 0x39 v) s = .next (held { k.cfg with delay := v.toNat }) ∧
      exec (.configWrite 0x3A v) s = .next (held { k.cfg with hold := v.toNat })) ∧
    (v.toNat = 0 ∨ 255 < v.toNat →
      ∀ offset ∈ ([0x35, 0x36, 0x37, 0x39, 0x3A] : List Offset),
        exec (.configWrite offset v) s = .next bad) ∧
    (∀ busy replay retry : Nat, busy ≤ 255 → 1 ≤ replay → replay ≤ 15 → retry ≤ 7 →
      v.toNat = 256 * busy + 16 * replay + retry →
      exec (.configWrite 0x38 v) s = .next (held { k.cfg with
        busyLimit := busy, replayLimit := replay, retryLimit := retry })) ∧
    ((∀ busy replay retry : Nat, busy ≤ 255 → 1 ≤ replay → replay ≤ 15 → retry ≤ 7 →
      v.toNat ≠ 256 * busy + 16 * replay + retry) →
      exec (.configWrite 0x38 v) s = .next bad)

/-! ### Interrupt -/

/-- R168, R81, R115, R172, R183: INT_STATUS, which the read of offset 0x01 returns, bit by bit (the sticky bits as
held, CQ and EQ by their conditions, every other bit 0), and outside the pin reset INT_N low exactly while some
INT_STATUS bit and its INT_ENABLE bit are both set. R180: INT_N is high while RESET_N is low. -/
def Obligations.IntStatusAndPinShowTheConditions : Prop :=
  (∀ s : State, registerRead s 0x01 = intStatus s ∧ (s.inReset = true → s.intN = true)) ∧
  (∀ s : State, s.sticky &&& ~~~0x700F = 0 →
    (∀ n, n ∈ [0, 1, 2, 3, 12, 13, 14] → (intStatus s).getLsbD n = s.sticky.getLsbD n) ∧
    (∀ n, n ∈ [4, 5, 6, 7, 10, 11, 15] → (intStatus s).getLsbD n = false) ∧
    ((intStatus s).getLsbD 8 = true ↔ ∃ r rest, s.cq = r :: rest ∧
      (s.cqTrigger ≤ s.cq.length ∨ s.cqAge ≠ 0 ∧ s.cqAge ≤ r.age.count)) ∧
    ((intStatus s).getLsbD 9 = true ↔ ∃ r rest, s.eq = r :: rest ∧
      (s.eqTrigger ≤ s.eq.length ∨ s.eqAge ≠ 0 ∧ s.eqAge ≤ r.age.count))) ∧
  ∀ s : State, s.inReset = false →
    (s.intN = false ↔ ∃ n, n < 16 ∧ (intStatus s).getLsbD n = true ∧ s.intEnable.getLsbD n = true)

/-- R170, R171: a write to INT_STATUS clears the sticky bits written with 1 and no other bit; a write to
INT_ENABLE sets the nine enable bits, or is ignored as a whole with CONFIG_ERROR. -/
def Obligations.InterruptRegisterWrites : Prop :=
  ∀ (s : State) (v : Word), s.inReset = false →
    (∃ t, exec (.intStatusWrite v) s = .next t ∧ t = { s with sticky := t.sticky } ∧
      (∀ n, t.sticky.getLsbD n = (s.sticky.getLsbD n && !v.getLsbD n)) ∧
      cqCondition t = cqCondition s ∧ eqCondition t = eqCondition s ∧
      (s.sticky &&& ~~~0x700F = 0 → (intStatus t).getLsbD 8 = (intStatus s).getLsbD 8 ∧
        (intStatus t).getLsbD 9 = (intStatus s).getLsbD 9)) ∧
    ((∀ n, v.getLsbD n = true → n ∈ [0, 1, 2, 3, 8, 9, 12, 13, 14]) →
      exec (.intEnableWrite v) s = .next { s with intEnable := v }) ∧
    (∀ n, v.getLsbD n = true → n ∉ [0, 1, 2, 3, 8, 9, 12, 13, 14] →
      exec (.intEnableWrite v) s = .next { s with sticky := s.sticky ||| 0x2000 })

/-! ### Link commands, flush and failure -/

/-- R144, R145, R146: START in OFF or FAILED puts the selected link in TRAINING, with its HELLO picked in the
event where the transmitter is IDLE; START in TRAINING or UP, STOP in OFF and every other value change
LINK_CMD_RESULT alone. -/
def Obligations.StartBeginsTraining : Prop :=
  ∀ s : State, s.inReset = false →
    let l := s.linkSelect
    let k := s.link l
    let report (o : CmdOutcome) (c : CmdCode) : State :=
      { s with cmdResult := { outcome := o, command := c, link := l } }
    (k.ctl.state = .off ∨ k.ctl.state = .failed → k.sch.ready = [] →
      exec .start s = .next ({ report .taken .start with
        sticky := s.sticky ||| BitVec.ofNat 16 (2 ^ l.val) }.setLink l { k with
          ctl := { k.ctl with
            state := .training, cause := .none, trainAttempts := 1
            helloTimer := some { elapsed := 0, duration := 1000 }, discards := 0, firstDiscard := none }
          cfg := { k.cfg with divisor := k.cfg.rate }
          sch := if k.sch.tx = Transmitter.idle
            then { k.sch with helloDue := false, tx := .sending .hello .control }
            else { k.sch with helloDue := true }
          rcv := { k.rcv with consecutiveBad := 0 } })) ∧
    (k.ctl.state = .training ∨ k.ctl.state = .up → exec .start s = .next (report .ignored .start)) ∧
    (k.ctl.state = .off → exec .stop s = .next (report .ignored .stop)) ∧
    ∀ v : Word, v ≠ 1 → v ≠ 2 → exec (.badCommand v) s = .next (report .badCommand .other)

/-- R147, R148: STOP in UP flushes the link with LINK_STOPPED; in TRAINING and FAILED it aborts a frame on the
line; each puts the link in OFF with its timers and pending frames cleared and its statistics kept. -/
def Obligations.StopTakesTheLinkOff : Prop :=
  ∀ s : State, s.inReset = false →
    let l := s.linkSelect
    let k := s.link l
    let reported (s' : State) : State := { s' with
      sticky := s.sticky ||| BitVec.ofNat 16 (2 ^ l.val)
      cmdResult := { outcome := .taken, command := .stop, link := l } }
    (k.ctl.state = .up →
      let f := flush s l .linkStopped false
      exec .stop s = .next ((reported f).setLink l { f.link l with
        ctl := { (f.link l).ctl with state := .off, helloTimer := none }
        sch := { (f.link l).sch with helloDue := false }
        evs := { k.evs with paused := false, pauseRepeat := 0 } })) ∧
    (k.ctl.state = .training ∨ k.ctl.state = .failed →
      ∃ tx, AbortedTo k.sch.tx tx ∧
        exec .stop s = .next ({ reported s with freeCount := s.freeCount + 1 }.setLink l { k with
          ctl := { k.ctl with state := .off, helloTimer := none }
          sch := { k.sch with
            tx := tx, helloDue := false, helloAckPending := false, pendingPause := .none
            lastPause := .none } }))

/-- R157, R23, R158: a flush aborts the frame on the line, completes every tag of the link in flight with its
records in ascending order, empties the collections, and counts each discarded posted write, replay list first.
Nothing else of the link, and nothing of another link or its tags, changes. -/
def Obligations.FlushEmptiesTheLink : Prop :=
  ∀ (s : State) (l : LinkId) (status : Status) (keep : Bool),
    let t := flush s l status keep
    let k := s.link l
    let inFlight (i : TagId) : Prop :=
      (s.tag i).link = l ∧ (s.tag i).state ∈ [.queued, .await, .resend, .deferred, .ready]
    let writes : List Posted :=
      k.pst.replay.map (·.write) ++ k.sch.txq.filterMap (fun e => match e with
        | .posted p => some p
        | .ref _ => none)
    t = { s with cq := t.cq, tags := t.tags, links := t.links, freeCount := s.freeCount + 1 } ∧
    (∀ i, inFlight i → t.tag i = { s.tag i with
      state := .complete, timer := .stopped
      result := some { status := status, faultCode := none, readData := none } }) ∧
    (∀ i, ¬inFlight i → t.tag i = s.tag i) ∧
    (∃ ids : List TagId, ids.Pairwise (· < ·) ∧ (∀ i, i ∈ ids ↔ inFlight i) ∧
      t.cq = s.cq ++ ids.map (fun i =>
        { index := i, gen := (s.tag i).gen, kind := (s.tag i).kind, status := status, faultCode := none,
          link := l, station := (s.tag i).station, hostAddr := (s.tag i).hostAddr,
          remoteAddr := (s.tag i).remoteAddr, readData := none, attempts := (s.tag i).attempts,
          busy := (s.tag i).busy, age := { count := 0, ticks := 0 } })) ∧
    (∀ l', l' ≠ l → t.link l' = s.link l') ∧
    ∃ tx, AbortedTo k.sch.tx tx ∧
      t.link l = { k with
        ctl := { k.ctl with
          discards := min 255 (k.ctl.discards + writes.length)
          firstDiscard := if k.ctl.firstDiscard = none then writes.head?.map (·.hostAddr)
            else k.ctl.firstDiscard }
        sch := { k.sch with
          tx := tx, txq := [], resend := [], ready := [], pendingPause := .none, lastPause := .none
          helloAckPending := keep && k.sch.helloAckPending, outPause := false, holdTimer := none }
        pst := { nextSeq := 0, replay := [], timer := none, pass := .none, attempts := 0,
                 duplicates := 0 } }

/-- R154, R155: a failure takes its cause, sets LINK_CHANGE and puts the link in FAILED, flushed with LINK_DOWN
from UP; in TRAINING it aborts a HELLO on the line and completes nothing. -/
def Obligations.FailureBringsTheLinkDown : Prop :=
  ∀ (s : State) (l : LinkId) (cause : FailCause),
    let k := s.link l
    let changed : Word := s.sticky ||| BitVec.ofNat 16 (2 ^ l.val)
    (k.ctl.state = .up →
      let f := flush s l .linkDown false
      failLink s l cause = { f with sticky := changed }.setLink l { f.link l with
        ctl := { (f.link l).ctl with state := .failed, cause := cause, helloTimer := none }
        sch := { (f.link l).sch with helloDue := false }
        evs := { k.evs with paused := false, pauseRepeat := 0 } }) ∧
    (k.ctl.state = .training →
      ∃ tx, AbortedTo k.sch.tx tx ∧
        failLink s l cause =
          { s with sticky := changed, freeCount := s.freeCount + 1 }.setLink l { k with
            ctl := { k.ctl with state := .failed, cause := cause, helloTimer := none }
            sch := { k.sch with tx := tx, helloDue := false, helloAckPending := false } })

/-! ### Ticks and expiries -/

/-- R165, R167: a tick counts US_COUNT up modulo 65536 and is counted by every running timer and every age count,
and changes nothing else. A timer started with a duration of us microseconds is due from the (us + 1)th tick after its
start and holds its duration; the nth increment of an age count is due from the (16 n + 1)th tick after the record
joined, and the count stops at 255. A record joins with age count 0, and no number of ticks changes the count: the
increments of `AgeCountsIncrement` alone do (R71, R108). -/
def Obligations.TickIsCountedEverywhere : Prop :=
  (∀ s : State, s.inReset = false →
    ∃ t, exec .tick s = .next t ∧
      t = { s with usCount := s.usCount + 1, tags := t.tags, cq := t.cq, eq := t.eq, links := t.links } ∧
      (∀ i : TagId, t.tag i = { s.tag i with timer := (s.tag i).timer.tick }) ∧
      (∀ l : LinkId,
        let k := s.link l
        t.link l = { k with
          ctl := { k.ctl with helloTimer := k.ctl.helloTimer.map Countdown.tick }
          sch := { k.sch with holdTimer := k.sch.holdTimer.map Countdown.tick }
          pst := { k.pst with timer := k.pst.timer.map Countdown.tick } }) ∧
      t.cq = s.cq.map (fun r => { r with age := r.age.tick }) ∧
      t.eq = s.eq.map (fun r => { r with age := r.age.tick })) ∧
  (∀ c : Countdown, TagTimer.tick (.reply c) = .reply c.tick ∧
    TagTimer.tick (.retryDelay c) = .retryDelay c.tick ∧ TagTimer.tick .stopped = .stopped) ∧
  (∀ c : Countdown, c.due = true ↔ c.duration < c.elapsed) ∧
  (∀ us n : Nat,
    startTimer us = { elapsed := 0, duration := us } ∧
    (Countdown.tick^[n] (startTimer us)).duration = us ∧
    ((Countdown.tick^[n] (startTimer us)).due = true ↔ us + 1 ≤ n)) ∧
  AgeCount.fresh = { count := 0, ticks := 0 } ∧
  (∀ (a : AgeCount) (n : Nat), (AgeCount.tick^[n] a).count = a.count) ∧
  ∀ n count : Nat,
    ({ AgeCount.tick^[n] AgeCount.fresh with count := count }).due = true ↔
      count < 255 ∧ 16 * (count + 1) + 1 ≤ n

/-- R71, R108, R167, R80, R115: an increment that is due adds one to the age count of its record alone; the
increment of the head that reaches a limit makes the level condition true. -/
def Obligations.AgeCountsIncrement : Prop :=
  ∀ s : State, s.inReset = false →
    (∀ n r, s.cq[n]? = some r → r.age.due = true →
      exec (.ageCountIncrement .completion n) s = .next { s with
        cq := s.cq.set n { r with age := { r.age with count := r.age.count + 1 } } }) ∧
    (∀ n r, s.eq[n]? = some r → r.age.due = true →
      exec (.ageCountIncrement .event n) s = .next { s with
        eq := s.eq.set n { r with age := { r.age with count := r.age.count + 1 } } }) ∧
    (∀ r rest, s.cq = r :: rest → r.age.due = true → r.age.count + 1 = s.cqAge →
      ∃ t, exec .cqAgeExpiry s = .next t ∧ cqCondition t = true ∧ (intStatus t).getLsbD 8 = true ∧
        t = { s with cq := { r with age := { r.age with count := s.cqAge } } :: rest }) ∧
    (∀ r rest, s.eq = r :: rest → r.age.due = true → r.age.count + 1 = s.eqAge →
      ∃ t, exec .eqAgeExpiry s = .next t ∧ eqCondition t = true ∧ (intStatus t).getLsbD 9 = true ∧
        t = { s with eq := { r with age := { r.age with count := s.eqAge } } :: rest })

/-- R6: a reply-timer expiry counts a timeout; the tag completes with TIMEOUT above the retry limit of its link,
and otherwise enters RESEND at the end of its link's resend order. -/
def Obligations.ReplyExpiryResendsOrCompletes : Prop :=
  ∀ (s : State) (i : TagId) (c : Countdown), s.inReset = false →
    (s.tag i).state = .await → (s.tag i).timer = .reply c → c.duration < c.elapsed →
    let tag := s.tag i
    let limit := (s.link tag.link).cfg.retryLimit
    (limit < tag.timeouts + 1 →
      exec (.replyTimerExpiry i) s = .next (completeTag
        (s.setTag i { tag with timeouts := tag.timeouts + 1 }) i
        { status := .timeout, faultCode := none, readData := none })) ∧
    (tag.timeouts + 1 ≤ limit →
      exec (.replyTimerExpiry i) s = .next (schedule
        ((s.setTag i { tag with
          timeouts := tag.timeouts + 1, state := .resend, timer := .stopped }).onLink tag.link
            (fun k => { k with sch := { k.sch with resend := k.sch.resend ++ [i] } })) tag.link))

/-- R16: at the expiry of its retry-delay timer a DEFERRED tag enters READY at the tail of the ready-deferred list
of its link. -/
def Obligations.DelayExpiryMakesTheTagReady : Prop :=
  ∀ (s : State) (i : TagId) (c : Countdown), s.inReset = false →
    (s.tag i).state = .deferred → (s.tag i).timer = .retryDelay c → c.duration < c.elapsed →
    exec (.retryDelayExpiry i) s = .next (schedule
      ((s.setTag i { s.tag i with state := .ready, timer := .stopped }).onLink (s.tag i).link
        (fun k => { k with sch := { k.sch with ready := k.sch.ready ++ [i] } })) (s.tag i).link)

/-- R47, R46, R45: a hold-timer expiry and a RESUME clear the outbound pause and let the held frames be picked in
the event; a RESUME with the flag clear is ignored; a PAUSE sets the flag and starts the timer anew with
LINK_HOLD as it stands. The kept bytes, count and mark that the two frames leave in the receiver, all clear, are the
model's choice (log 7, DEDUCED from R134). -/
def Obligations.OutboundPauseIsSetAndCleared : Prop :=
  ∀ (s : State) (l : LinkId), s.inReset = false →
    let k := s.link l
    let g := k.goodFrame
    (∀ c, k.sch.holdTimer = some c → c.duration < c.elapsed →
      exec (.pauseHoldExpiry l) s = .next (schedule
        (s.setLink l { k with sch := { k.sch with outPause := false, holdTimer := none } }) l)) ∧
    ∀ (st : StationId) (b : Byte),
      (k.ctl.state = .up → exec (.pause l st b) s = .next (s.setLink l { g with
        sch := { k.sch with
          outPause := true, holdTimer := some { elapsed := 0, duration := k.cfg.hold * 256 } } })) ∧
      (k.ctl.state = .up → k.sch.outPause = true →
        exec (.resume l st b) s = .next (schedule
          (s.setLink l { g with sch := { k.sch with outPause := false, holdTimer := none } }) l)) ∧
      (k.ctl.state = .up → k.sch.outPause = false → exec (.resume l st b) s = .next (s.setLink l g)) ∧
      (k.ctl.state ≠ .up →
        exec (.pause l st b) s = .next (s.setLink l g) ∧ exec (.resume l st b) s = .next (s.setLink l g))

/-- R62, R64: a replay-timer expiry counts an attempt; within the limit a pass starts at the oldest entry, with the
timer stopped and the duplicate count 0; above it the link fails with REPLAY_EXHAUSTED. -/
def Obligations.ReplayExpiryStartsAPass : Prop :=
  ∀ (s : State) (l : LinkId) (c : Countdown), s.inReset = false →
    (s.link l).ctl.state = .up → (s.link l).pst.timer = some c → c.duration < c.elapsed →
    let k := s.link l
    (k.pst.attempts + 1 ≤ k.cfg.replayLimit →
      exec (.replayTimerExpiry l) s = .next (schedule (s.setLink l { k with pst := { k.pst with
        attempts := k.pst.attempts + 1, timer := none, duplicates := 0
        pass := .active (k.pst.replay.head?.map (·.seq)) } }) l)) ∧
    (k.cfg.replayLimit < k.pst.attempts + 1 →
      exec (.replayTimerExpiry l) s = .next (failLink (s.setLink l { k with pst := { k.pst with
        attempts := k.pst.attempts + 1, timer := none } }) l .replayExhausted))

/-- R149: a HELLO interval expiry below 16 attempts counts one, restarts the timer and lets a HELLO fall due; at 16
the link fails with TRAIN_EXHAUSTED. -/
def Obligations.HelloExpiryRepeatsOrFails : Prop :=
  ∀ (s : State) (l : LinkId) (c : Countdown), s.inReset = false →
    (s.link l).ctl.state = .training → (s.link l).ctl.helloTimer = some c → c.duration < c.elapsed →
    let k := s.link l
    (k.ctl.trainAttempts < 16 →
      exec (.helloIntervalExpiry l) s = .next (schedule (s.setLink l { k with
        ctl := { k.ctl with
          trainAttempts := k.ctl.trainAttempts + 1
          helloTimer := some { elapsed := 0, duration := 1000 } }
        sch := { k.sch with helloDue := true } }) l)) ∧
    (16 ≤ k.ctl.trainAttempts →
      exec (.helloIntervalExpiry l) s = .next (failLink s l .trainExhausted))

/-! ### The transmitter and the scheduler -/

/-- R4, R32: at the end of an RD or WRC frame its tag enters AWAIT, counted and with the reply timer of its link,
and a queue entry leaves, where the tag still is what the frame was picked from; otherwise the transmitter alone
is freed. -/
def Obligations.RequestEndEntersAwait : Prop :=
  ∀ (s : State) (l : LinkId) (f : TxFrame) (i : TagId) (g : Gen) (st : StationId) (a : Addr) (data : Word),
    s.inReset = false → f = .rd i g st a ∨ f = .wrc i g st a data →
    let k := s.link l
    let tag := s.tag i
    let sent : State := s.setTag i { tag with
      state := .await, attempts := min 255 (tag.attempts + 1)
      timer := .reply { elapsed := 0, duration := k.cfg.replyTo * 64 } }
    let freed := schedule (s.setLink l { k with sch := { k.sch with tx := .idle } }) l
    (k.sch.tx = .sending f .resend →
      (tag.gen = g → tag.link = l → tag.state = .resend →
        exec (.endOfRequestTransmission l) s =
          .next (schedule (sent.setLink l { k with sch := { k.sch with tx := .idle } }) l)) ∧
      (¬(tag.gen = g ∧ tag.link = l ∧ tag.state = .resend) →
        exec (.endOfRequestTransmission l) s = .next freed)) ∧
    ∀ held, k.sch.tx = .sending f (.queueHead held) →
      (∀ rest, held = true → k.sch.txq = .ref i :: rest →
        tag.gen = g → tag.link = l → tag.state = .queued →
        exec (.endOfRequestTransmission l) s =
          .next (schedule (sent.setLink l { k with sch := { k.sch with tx := .idle, txq := rest } }) l)) ∧
      (¬(held = true ∧ k.sch.txq.head? = some (.ref i) ∧ tag.gen = g ∧ tag.link = l ∧
          tag.state = .queued) →
        exec (.endOfRequestTransmission l) s = .next freed)

/-- R54, R32: at the end of a first WR transmission the posted write leaves the transmit queue and joins the tail of
the replay list with the frame's number, next_seq moves on, and the replay timer starts where the list was empty
and no pass is in progress. -/
def Obligations.WriteEndJoinsTheReplayList : Prop :=
  ∀ (s : State) (l : LinkId) (seq : Seq) (st : StationId) (remote : Addr) (data : Word) (held : Bool)
    (p : Posted) (rest : List QEntry), s.inReset = false →
    let k := s.link l
    k.sch.tx = .sending (.wr seq st remote data) (.queueHead held) → k.sch.txq = .posted p :: rest →
    exec (.endOfFirstWrTransmission l) s = .next (schedule (s.setLink l { k with
      sch := { k.sch with tx := .idle, txq := rest }
      pst := { k.pst with
        replay := k.pst.replay ++ [{ seq := seq, write := p }]
        nextSeq := k.pst.nextSeq + 1
        timer := if k.pst.replay = [] ∧ k.pst.pass = .none
          then some { elapsed := 0, duration := k.cfg.replayTo * 64 } else k.pst.timer } }) l)

/-- R63, R43, R49: the end of a control frame or of an abort sequence frees the transmitter alone; the end of a pass
frame also ends the pass where no entry is left to send, and then the replay timer starts, or a second pass is
asked at a duplicate count of 2, or nothing on an empty list. -/
def Obligations.OtherEndsFreeTheTransmitter : Prop :=
  ∀ (s : State) (l : LinkId), s.inReset = false →
    let k := s.link l
    let idle : Link := { k with sch := { k.sch with tx := .idle } }
    let ended (p : PostedState) : State := schedule (s.setLink l { idle with pst := p }) l
    (∀ f, k.sch.tx = .sending f .control →
      exec (.endOfControlFrame l) s = .next (schedule (s.setLink l idle) l)) ∧
    (∀ rest, k.sch.tx = .aborting rest →
      exec (.abortSequenceEnd l) s = .next (schedule (s.setLink l idle) l)) ∧
    ∀ f, k.sch.tx = .sending f .pass →
      (k.pst.pass ≠ .active none → exec (.endOfPassFrame l) s = .next (schedule (s.setLink l idle) l)) ∧
      (k.pst.pass = .active none → k.pst.replay = [] →
        exec (.endOfPassFrame l) s = .next (ended { k.pst with pass := .none })) ∧
      (k.pst.pass = .active none → k.pst.replay ≠ [] → k.pst.duplicates < 2 →
        exec (.endOfPassFrame l) s = .next (ended { k.pst with
          pass := .none, timer := some { elapsed := 0, duration := k.cfg.replayTo * 64 } })) ∧
      (k.pst.pass = .active none → k.pst.replay ≠ [] → k.pst.duplicates = 2 →
        k.pst.attempts + 1 ≤ k.cfg.replayLimit →
        exec (.endOfPassFrame l) s = .next (ended { k.pst with
          pass := .active (k.pst.replay.head?.map (·.seq)), attempts := k.pst.attempts + 1
          timer := none, duplicates := 0 })) ∧
      (k.ctl.state = .up → k.pst.pass = .active none → k.pst.replay ≠ [] → k.pst.duplicates = 2 →
        k.cfg.replayLimit < k.pst.attempts + 1 →
        exec (.endOfPassFrame l) s = .next (failLink (s.setLink l { idle with
          pst := { k.pst with pass := .none, attempts := k.pst.attempts + 1 } }) l .replayExhausted))

/-- R38, R39, R40, R42, R43, R48: the pick. Only an IDLE transmitter takes a frame; in UP the claimants go in their
priority, a HELLO_ACK before a pause frame, and the outbound pause holds back all but the control-frame slot; in
TRAINING a due HELLO goes; in OFF and FAILED nothing. A READ is sent as RD and a WRITE_CONFIRMED as WRC, with the tag's
index and what its record holds (R29, R132). R35: a station is held back while some entry of the replay list is for
it. -/
def Obligations.PickFollowsThePriority : Prop :=
  ∀ (tags : Vector Tag 32) (k : Link),
    let sends (f : TxFrame) (src : Source) (sch : Scheduler) : Link :=
      { k with sch := { sch with tx := .sending f src } }
    (∀ st : StationId, k.holdsBack st = true ↔ ∃ e ∈ k.pst.replay, e.write.station = st) ∧
    (∀ (i : TagId) (t : Tag),
      (t.kind = .read → requestFrame i t = .rd i t.gen t.station t.remoteAddr) ∧
      ∀ w, t.kind = .writeConfirmed → t.writeData = some w →
        requestFrame i t = .wrc i t.gen t.station t.remoteAddr w) ∧
    (k.sch.tx ≠ .idle ∨ k.ctl.state = .off ∨ k.ctl.state = .failed → pick tags k = k) ∧
    (k.sch.tx = .idle → k.ctl.state = .training →
      pick tags k = if k.sch.helloDue then sends .hello .control { k.sch with helloDue := false } else k) ∧
    (k.sch.tx = .idle → k.ctl.state = .up → k.sch.helloAckPending = true →
      pick tags k = sends .helloAck .control { k.sch with helloAckPending := false }) ∧
    (k.sch.tx = .idle → k.ctl.state = .up → k.sch.helloAckPending = false →
      (k.sch.pendingPause = .pause →
        pick tags k = sends .pause .control { k.sch with pendingPause := .none, lastPause := .pause }) ∧
      (k.sch.pendingPause = .resume →
        pick tags k = sends .resume .control { k.sch with pendingPause := .none, lastPause := .resume }) ∧
      (k.sch.pendingPause = .none → k.sch.outPause = true → pick tags k = k) ∧
      (k.sch.pendingPause = .none → k.sch.outPause = false →
        (∀ before e after, k.pst.pass = .active (some e.seq) → k.pst.replay = before ++ e :: after →
          (∀ x ∈ before, x.seq ≠ e.seq) →
          pick tags k = { sends (.wr e.seq e.write.station e.write.remoteAddr e.write.data) .pass k.sch with
            pst := { k.pst with pass := .active (after.head?.map (·.seq)) } }) ∧
        (k.pst.pass = .none ∨ k.pst.pass = .active none →
          (∀ before i after, k.sch.resend = before ++ i :: after → k.holdsBack tags[i].station = false →
            (∀ j ∈ before, k.holdsBack tags[j].station = true) →
            pick tags k =
              sends (requestFrame i tags[i]) .resend { k.sch with resend := before ++ after }) ∧
          ((∀ j ∈ k.sch.resend, k.holdsBack tags[j].station = true) →
            (∀ p rest, k.sch.txq = .posted p :: rest →
              pick tags k = if k.pst.replay.length < 8 ∧ k.pst.pass = .none
                then sends (.wr k.pst.nextSeq p.station p.remoteAddr p.data) (.queueHead true) k.sch
                else k) ∧
            (∀ i rest, k.sch.txq = .ref i :: rest →
              pick tags k = if k.holdsBack tags[i].station then k
                else sends (requestFrame i tags[i]) (.queueHead true) k.sch) ∧
            (k.sch.txq = [] → pick tags k = k)))))

/-- R31, R18, R38: at the end of an event the head tags of the ready-deferred list enter the free slots of the
transmit queue, at its tail and in QUEUED with every other field kept, and then the pick is made by the state as
that leaves it. The first clause says what it is to read and to replace a tag and a link, as every statement does. -/
def Obligations.ReadyTagsTakeFreeSlots : Prop :=
  (∀ (s : State) (i : TagId) (t : Tag) (l : LinkId) (k : Link) (f : Link → Link),
    s.tag i = s.tags[i] ∧ s.link l = s.links[l] ∧
    s.setTag i t = { s with tags := s.tags.set i t } ∧ s.setLink l k = { s with links := s.links.set l k } ∧
    s.onLink l f = s.setLink l (f (s.link l))) ∧
  ∀ (s : State) (l : LinkId),
    let k := s.link l
    let free := 16 - k.sch.txq.length
    ∃ t : State,
      t = { s with tags := t.tags, links := t.links } ∧
      (∀ i : TagId, t.tag i =
        if i ∈ k.sch.ready.take free then { s.tag i with state := .queued } else s.tag i) ∧
      (∀ l', l' ≠ l → t.link l' = s.link l') ∧
      t.link l = { k with sch := { k.sch with
        txq := k.sch.txq ++ (k.sch.ready.take free).map .ref, ready := k.sch.ready.drop free } } ∧
      schedule s l = t.setLink l (pick t.tags (t.link l))

/-- R20, R12, R33, R73: the completion of a tag stores its result, takes it out of the collections of its link with
every other entry's order kept and its frame left on the line, and appends its record at the tail of the completion
queue; nothing else changes. A frame on the line whose entry at the queue head this takes away is marked as without its
entry (R4, R33), and only such a frame is. -/
def Obligations.CompletionAppendsOneRecord : Prop :=
  ∀ (s : State) (i : TagId) (result : Result),
    let tag := s.tag i
    let k := s.link tag.link
    let t := completeTag s i result
    let k' := t.link tag.link
    t = { s with tags := t.tags, links := t.links, cq := t.cq } ∧
    t.tag i = { tag with state := .complete, timer := .stopped, result := some result } ∧
    (∀ j, j ≠ i → t.tag j = s.tag j) ∧
    t.cq = s.cq ++ [
      { index := i, gen := tag.gen, kind := tag.kind, status := result.status,
        faultCode := result.faultCode, link := tag.link, station := tag.station, hostAddr := tag.hostAddr,
        remoteAddr := tag.remoteAddr, readData := result.readData, attempts := tag.attempts,
        busy := tag.busy, age := { count := 0, ticks := 0 } }] ∧
    (∀ l, l ≠ tag.link → t.link l = s.link l) ∧
    k' = { k with sch := { k.sch with
      tx := k'.sch.tx
      txq := k.sch.txq.filter (fun e => decide (e ≠ .ref i))
      resend := k.sch.resend.filter (fun j => decide (j ≠ i))
      ready := k.sch.ready.filter (fun j => decide (j ≠ i)) } } ∧
    (∀ f, k.sch.tx = .sending f (.queueHead true) → k.sch.txq.head? = some (.ref i) →
      k'.sch.tx = .sending f (.queueHead false)) ∧
    ((∀ f, k.sch.tx ≠ .sending f (.queueHead true)) ∨ k.sch.txq.head? ≠ some (.ref i) →
      k'.sch.tx = k.sch.tx)

/-! ### Received frames

A command of a good frame stands for the event of its closing flag, so the receiver is HUNTING after it with nothing
kept (log 7, DEDUCED from R134): `goodFrame`, which `BytesFollowTheFramingTable` writes out. -/

/-- R150, R151, R152, R153, R137: a HELLO or HELLO_ACK in TRAINING brings the link UP; a HELLO in UP is a partner
restart (flush with PARTNER_RESET, HELLO_ACK asked, UP entered anew); a HELLO_ACK in UP is a stale answer; in OFF and
FAILED both are ignored. -/
def Obligations.HelloBringsTheLinkUp : Prop :=
  ∀ (s : State) (l : LinkId) (st : StationId) (version : Byte), s.inReset = false →
    let k := s.link l
    let g := k.goodFrame
    let changed : Word := s.sticky ||| BitVec.ofNat 16 (2 ^ l.val)
    let entered (base : Link) (ack : Bool) : Link := { base with
      ctl := { base.ctl with state := .up, helloTimer := none }
      sch := { base.sch with
        helloDue := false, lastPause := .none, outPause := false, holdTimer := none
        helloAckPending := ack
        pendingPause := if s.lowThreshold < k.evs.count then .pause else base.sch.pendingPause }
      pst := { nextSeq := 0, replay := [], timer := none, pass := .none, attempts := 0, duplicates := 0 }
      evs := { k.evs with paused := decide (s.lowThreshold < k.evs.count), pauseRepeat := 0 } }
    (k.ctl.state = .training → k.sch.ready = [] →
      exec (.hello l st version) s =
        .next ({ s with sticky := changed }.setLink l (pick s.tags (entered g true))) ∧
      exec (.helloAck l st version) s =
        .next ({ s with sticky := changed }.setLink l
          (pick s.tags (entered g k.sch.helloAckPending)))) ∧
    (k.ctl.state = .up →
      (let f := flush (s.setLink l g) l .partnerReset true
       exec (.hello l st version) s =
        .next ({ f with sticky := changed }.setLink l (pick f.tags (entered (f.link l) true)))) ∧
      exec (.helloAck l st version) s = .next (s.setLink l { g with
        ctl := { k.ctl with stale := min 255 (k.ctl.stale + 1) } })) ∧
    (k.ctl.state = .off ∨ k.ctl.state = .failed →
      exec (.hello l st version) s = .next (s.setLink l g) ∧
      exec (.helloAck l st version) s = .next (s.setLink l g))

/-- R57, R58, R59: an ACKP that names the k-th number after the oldest removes the k oldest entries and clears the two
counts; the timer restarts or stops outside a pass; in a pass the position moves past removed entries, and the pass
ends where nothing is left to send and no frame of it is on the line. -/
def Obligations.ProgressAcknowledgementRemovesEntries : Prop :=
  ∀ (s : State) (l : LinkId) (st : StationId) (b : Byte) (e : ReplayEntry) (more : List ReplayEntry)
    (n : Nat), s.inReset = false → (s.link l).ctl.state = .up →
    (s.link l).pst.replay = e :: more → more.length + 1 ≤ 8 → 1 ≤ n → n ≤ more.length + 1 →
    b.setWidth 6 = e.seq + BitVec.ofNat 6 n →
    let k := s.link l
    let rest := k.pst.replay.drop n
    let taken (p : PostedState) : Host.Outcome State Fault Refusal :=
      .next (schedule (s.setLink l { k.goodFrame with
        pst := { p with replay := rest, attempts := 0, duplicates := 0 } }) l)
    (k.pst.pass = .none →
      exec (.ackp l st b) s = taken { k.pst with
        timer := if rest = [] then none
          else some { elapsed := 0, duration := k.cfg.replayTo * 64 } }) ∧
    (∀ q, k.pst.pass = .active (some q) → (∀ x ∈ k.pst.replay.take n, x.seq ≠ q) →
      exec (.ackp l st b) s = taken k.pst) ∧
    (∀ q x, k.pst.pass = .active (some q) → x ∈ k.pst.replay.take n → x.seq = q →
      (rest ≠ [] → exec (.ackp l st b) s =
        taken { k.pst with pass := .active (rest.head?.map (·.seq)) }) ∧
      (rest = [] → (∀ f, k.sch.tx ≠ .sending f .pass) →
        exec (.ackp l st b) s = taken { k.pst with pass := .none }) ∧
      (rest = [] → (∃ f, k.sch.tx = .sending f .pass) →
        exec (.ackp l st b) s = taken { k.pst with pass := .active none })) ∧
    (k.pst.pass = .active none → (∃ f, k.sch.tx = .sending f .pass) →
      exec (.ackp l st b) s = taken k.pst)

/-- R60, R61, R62, R64, R137: an ACKP that names the oldest number is a duplicate, and the second one outside a pass
asks a pass, which starts or fails the link; one that names no number of the list is counted as stale; none reaches
the list of a link that is not UP. -/
def Obligations.OtherAcknowledgementsLeaveTheList : Prop :=
  ∀ (s : State) (l : LinkId) (st : StationId) (b : Byte), s.inReset = false →
    let k := s.link l
    let g := k.goodFrame
    let replay := k.pst.replay
    (k.ctl.state ≠ .up → exec (.ackp l st b) s = .next (s.setLink l g)) ∧
    (k.ctl.state = .up → ∀ e more, replay = e :: more → b.setWidth 6 = e.seq →
      (k.pst.duplicates + 1 < 2 ∨ k.pst.pass ≠ .none →
        exec (.ackp l st b) s = .next (s.setLink l { g with
          pst := { k.pst with duplicates := min 2 (k.pst.duplicates + 1) } })) ∧
      (2 ≤ k.pst.duplicates + 1 → k.pst.pass = .none → k.pst.attempts + 1 ≤ k.cfg.replayLimit →
        exec (.ackp l st b) s = .next (schedule (s.setLink l { g with pst := { k.pst with
          duplicates := 0, attempts := k.pst.attempts + 1, timer := none
          pass := .active (some e.seq) } }) l)) ∧
      (2 ≤ k.pst.duplicates + 1 → k.pst.pass = .none → k.cfg.replayLimit < k.pst.attempts + 1 →
        exec (.ackp l st b) s = .next (failLink (s.setLink l { g with pst := { k.pst with
          duplicates := 2, attempts := k.pst.attempts + 1 } }) l .replayExhausted))) ∧
    (k.ctl.state = .up → replay.length ≤ 8 →
      (∀ e n, replay.head? = some e → n ≤ replay.length → b.setWidth 6 ≠ e.seq + BitVec.ofNat 6 n) →
      exec (.ackp l st b) s = .next (s.setLink l { g with
        ctl := { k.ctl with stale := min 255 (k.ctl.stale + 1) } }))

/-- R9, R10, R11, R12, R137: a final answer in UP is taken when generation, link, station and kind fit and the tag is in
a state that takes it, and then completes the tag; any other is counted as stale; none reaches a tag of a link that is
not UP. -/
def Obligations.FinalAnswersCompleteOrAreStale : Prop :=
  ∀ (s : State) (l : LinkId) (st : StationId) (b : Byte), s.inReset = false →
    let k := s.link l
    let s₀ := s.setLink l k.goodFrame
    let i : TagId := ⟨b.toNat % 32, Nat.mod_lt _ (by decide)⟩
    let tag := s.tag i
    let answered : Prop := tag.gen.toNat = b.toNat / 32 % 4 ∧ tag.link = l ∧ tag.station = st ∧
      (tag.state ∈ [.await, .resend, .deferred, .ready] ∨ tag.state = .queued ∧ 1 ≤ tag.attempts)
    let completes (r : Result) : Host.Outcome State Fault Refusal :=
      .next (schedule (completeTag s₀ i r) l)
    let stale : Host.Outcome State Fault Refusal := .next (s.setLink l { k.goodFrame with
      ctl := { k.ctl with stale := min 255 (k.ctl.stale + 1) } })
    (k.ctl.state = .up →
      (answered → tag.kind = .writeConfirmed →
        exec (.done l st b) s = completes { status := .ok, faultCode := none, readData := none }) ∧
      (¬answered ∨ tag.kind = .read → exec (.done l st b) s = stale) ∧
      (∀ w, answered → tag.kind = .read →
        exec (.data l st b w) s = completes { status := .ok, faultCode := none, readData := some w }) ∧
      (∀ w, ¬answered ∨ tag.kind = .writeConfirmed → exec (.data l st b w) s = stale) ∧
      (∀ c, answered → exec (.fault l st b c) s = completes
        { status := .remoteFault, faultCode := some (c.setWidth 4), readData := none }) ∧
      (∀ c, ¬answered → exec (.fault l st b c) s = stale)) ∧
    (k.ctl.state ≠ .up →
      exec (.done l st b) s = .next s₀ ∧ (∀ w, exec (.data l st b w) s = .next s₀) ∧
      ∀ c, exec (.fault l st b c) s = .next s₀)

/-- R9, R10, R13, R137: a RETRY that fits a tag in AWAIT counts busy; above a busy limit other than 255 the tag completes
with BUSY, and otherwise it enters DEFERRED with the retry-delay timer; any other RETRY in UP is stale. -/
def Obligations.RetryDefersOrCompletes : Prop :=
  ∀ (s : State) (l : LinkId) (st : StationId) (b : Byte), s.inReset = false →
    let k := s.link l
    let s₀ := s.setLink l k.goodFrame
    let i : TagId := ⟨b.toNat % 32, Nat.mod_lt _ (by decide)⟩
    let tag := s.tag i
    let busy := min 255 (tag.busy + 1)
    let answered : Prop :=
      tag.gen.toNat = b.toNat / 32 % 4 ∧ tag.link = l ∧ tag.station = st ∧ tag.state = .await
    (k.ctl.state ≠ .up → exec (.retry l st b) s = .next s₀) ∧
    (k.ctl.state = .up → ¬answered →
      exec (.retry l st b) s = .next (s.setLink l { k.goodFrame with
        ctl := { k.ctl with stale := min 255 (k.ctl.stale + 1) } })) ∧
    (k.ctl.state = .up → answered → k.cfg.busyLimit ≠ 255 → k.cfg.busyLimit < busy →
      exec (.retry l st b) s = .next (completeTag (s₀.setTag i { tag with busy := busy }) i
        { status := .busy, faultCode := none, readData := none })) ∧
    (k.ctl.state = .up → answered → k.cfg.busyLimit = 255 ∨ busy ≤ k.cfg.busyLimit →
      exec (.retry l st b) s = .next (s₀.setTag i { tag with
        busy := busy, state := .deferred
        timer := .retryDelay { elapsed := 0, duration := k.cfg.delay * 16 } }))

/-- R109, R110, R116, R117, R137: an EVT in UP is stored while the queue holds fewer than 64 records, and dropped, counted
and reported otherwise; the store makes the entry test, and an arrival on a paused link advances the pause-repeat
count; an EVT on a link that is not UP reaches no count. -/
def Obligations.EventsAreStoredOrDropped : Prop :=
  ∀ (s : State) (l : LinkId) (st : StationId) (code : Byte) (payload : Word), s.inReset = false →
    let k := s.link l
    let g := k.goodFrame
    let record : EvtRecord :=
      { link := l, station := st, code := code, payload := payload, lostBefore := k.evs.lost,
        time := s.usCount, age := { count := 0, ticks := 0 } }
    let stored (evs : EventSide) (sch : Scheduler) : Host.Outcome State Fault Refusal :=
      .next (schedule ({ s with eq := s.eq ++ [record] }.setLink l { g with evs := evs, sch := sch }) l)
    let dropped (evs : EventSide) (sch : Scheduler) : Host.Outcome State Fault Refusal :=
      .next (schedule ({ s with sticky := s.sticky ||| 0x1000 }.setLink l
        { g with evs := evs, sch := sch }) l)
    let asked : Scheduler := { k.sch with pendingPause := .pause }
    let kept : EventSide := { k.evs with lost := 0, count := k.evs.count + 1 }
    let lost : EventSide := { k.evs with lost := min 255 (k.evs.lost + 1) }
    let again : Prop := s.repeatK ≤ k.evs.pauseRepeat + 1
    let run := exec (.evt l st code payload) s
    (k.ctl.state ≠ .up → run = .next (s.setLink l g)) ∧
    (k.ctl.state = .up → s.eq.length < 64 →
      (k.evs.paused = false → s.highThreshold < k.evs.count + 1 →
        run = stored { kept with paused := true, pauseRepeat := 0 } asked) ∧
      (k.evs.paused = false → k.evs.count + 1 ≤ s.highThreshold → run = stored kept k.sch) ∧
      (k.evs.paused = true → again → run = stored { kept with pauseRepeat := 0 } asked) ∧
      (k.evs.paused = true → ¬again →
        run = stored { kept with pauseRepeat := k.evs.pauseRepeat + 1 } k.sch)) ∧
    (k.ctl.state = .up → 64 ≤ s.eq.length →
      (k.evs.paused = false → run = dropped lost k.sch) ∧
      (k.evs.paused = true → again → run = dropped { lost with pauseRepeat := 0 } asked) ∧
      (k.evs.paused = true → ¬again →
        run = dropped { lost with pauseRepeat := k.evs.pauseRepeat + 1 } k.sch))

/-- R135, R138, R139: a malformed frame is counted in TRAINING and UP, where the eighth in a row fails the link; in OFF
and FAILED it is not counted; an aborted frame leaves every count; each leaves the receiver HUNTING. The kept bytes,
count and mark that they leave in HUNTING, all clear, are the model's choice (log 7, DEDUCED from R134). -/
def Obligations.MalformedFramesCountAndFail : Prop :=
  ∀ (s : State) (l : LinkId), s.inReset = false →
    let k := s.link l
    let hunting : Receiver := { k.rcv with
      framing := .hunting, kept := [], byteCount := 0, badMark := false }
    let counted : Receiver := { hunting with
      badFrames := min 65535 (k.rcv.badFrames + 1), consecutiveBad := k.rcv.consecutiveBad + 1 }
    exec (.abortedFrame l) s = .next (s.setLink l { k with rcv := hunting }) ∧
    (k.ctl.state = .off ∨ k.ctl.state = .failed →
      exec (.malformedFrame l) s = .next (s.setLink l { k with rcv := hunting })) ∧
    (k.ctl.state = .training ∨ k.ctl.state = .up → k.rcv.consecutiveBad + 1 < 8 →
      exec (.malformedFrame l) s = .next (s.setLink l { k with rcv := counted })) ∧
    (k.ctl.state = .training ∨ k.ctl.state = .up → 8 ≤ k.rcv.consecutiveBad + 1 →
      exec (.malformedFrame l) s =
        .next (failLink (s.setLink l { k with rcv := counted }) l .badFrames))

/-- R134, R135, R136, R137, R139: each row of the receiver's table. A flag that closes a frame is the command of the
frame as judged, a flag after an escape is the aborted frame, and every other byte changes the receiver alone. The
good frame itself clears the consecutive-bad count in TRAINING and UP. -/
def Obligations.BytesFollowTheFramingTable : Prop :=
  (∀ (l : LinkId) (st : StationId) (b c : Byte) (w : Word),
    RxFrame.command l (.hello st b) = .hello l st b ∧ RxFrame.command l (.helloAck st b) = .helloAck l st b ∧
    RxFrame.command l (.ackp st b) = .ackp l st b ∧ RxFrame.command l (.done st b) = .done l st b ∧
    RxFrame.command l (.data st b w) = .data l st b w ∧ RxFrame.command l (.retry st b) = .retry l st b ∧
    RxFrame.command l (.fault st b c) = .fault l st b c ∧ RxFrame.command l (.evt st b w) = .evt l st b w ∧
    RxFrame.command l (.pause st b) = .pause l st b ∧ RxFrame.command l (.resume st b) = .resume l st b) ∧
  ∀ (s : State) (l : LinkId) (b : Byte), s.inReset = false →
    let k := s.link l
    let r := k.rcv
    let run := exec (.byteReceived l b) s
    let now (r : Receiver) : Host.Outcome State Fault Refusal := .next (s.setLink l { k with rcv := r })
    let appended (r : Receiver) (b : Byte) : Receiver := { r with
      framing := .inFrame, byteCount := r.byteCount + 1
      kept := if r.kept.length < 9 then r.kept ++ [b] else r.kept }
    k.goodFrame = { k with rcv := { r with
      framing := .hunting, kept := [], byteCount := 0, badMark := false
      consecutiveBad := if k.ctl.state = .training ∨ k.ctl.state = .up then 0
        else r.consecutiveBad } } ∧
    (r.framing = .hunting → b = 0xA5 →
      run = now { r with framing := .inFrame, kept := [], byteCount := 0, badMark := false }) ∧
    (r.framing = .hunting → b ≠ 0xA5 → run = .next s) ∧
    (r.framing = .inFrame → b = 0xA5 → r.byteCount = 0 → r.badMark = false → run = .next s) ∧
    (r.framing = .inFrame → b = 0xA5 → 1 ≤ r.byteCount ∨ r.badMark = true →
      (∀ f, r.judge = some f → run = exec (f.command l) s) ∧
      (r.judge = none → run = exec (.malformedFrame l) s)) ∧
    (r.framing = .inFrame → b = 0x5A → run = now { r with framing := .escaped }) ∧
    (r.framing = .inFrame → b ≠ 0xA5 → b ≠ 0x5A → run = now (appended r b)) ∧
    (r.framing = .escaped → b = 0x85 → run = now (appended r 0xA5)) ∧
    (r.framing = .escaped → b = 0x7A → run = now (appended r 0x5A)) ∧
    (r.framing = .escaped → b = 0xA5 → run = exec (.abortedFrame l) s) ∧
    (r.framing = .escaped → b ≠ 0x85 → b ≠ 0x7A → b ≠ 0xA5 →
      run = now { r with framing := .inFrame, badMark := true })

end
end

