-- ==== Sys2Proof/Laws/HostBus.lean ====
section
/-! SUPPORT. What an edge of a strobe can do, said once (R174): the lemmas of the host bus, and one lemma for each
kind of edge. -/

namespace Sys2Proof.Laws

open Sys2Proof.Machine

/-! ### drive -/

@[simp] theorem drive_inReset (s : State) (w : Option Word) : (s.drive w).inReset = s.inReset := rfl
@[simp] theorem drive_usCount (s : State) (w : Option Word) : (s.drive w).usCount = s.usCount := rfl
@[simp] theorem drive_raddrH (s : State) (w : Option Word) : (s.drive w).raddrH = s.raddrH := rfl
@[simp] theorem drive_raddrL (s : State) (w : Option Word) : (s.drive w).raddrL = s.raddrL := rfl
@[simp] theorem drive_wdata (s : State) (w : Option Word) : (s.drive w).wdata = s.wdata := rfl
@[simp] theorem drive_streamAddr (s : State) (w : Option Word) : (s.drive w).streamAddr = s.streamAddr := rfl
@[simp] theorem drive_issueResult (s : State) (w : Option Word) : (s.drive w).issueResult = s.issueResult := rfl
@[simp] theorem drive_winSelect (s : State) (w : Option Word) : (s.drive w).winSelect = s.winSelect := rfl
@[simp] theorem drive_windows (s : State) (w : Option Word) : (s.drive w).windows = s.windows := rfl
@[simp] theorem drive_striped (s : State) (w : Option Word) : (s.drive w).striped = s.striped := rfl
@[simp] theorem drive_linkSelect (s : State) (w : Option Word) : (s.drive w).linkSelect = s.linkSelect := rfl
@[simp] theorem drive_cmdResult (s : State) (w : Option Word) : (s.drive w).cmdResult = s.cmdResult := rfl
@[simp] theorem drive_sticky (s : State) (w : Option Word) : (s.drive w).sticky = s.sticky := rfl
@[simp] theorem drive_intEnable (s : State) (w : Option Word) : (s.drive w).intEnable = s.intEnable := rfl
@[simp] theorem drive_tags (s : State) (w : Option Word) : (s.drive w).tags = s.tags := rfl
@[simp] theorem drive_cq (s : State) (w : Option Word) : (s.drive w).cq = s.cq := rfl
@[simp] theorem drive_cqTrigger (s : State) (w : Option Word) : (s.drive w).cqTrigger = s.cqTrigger := rfl
@[simp] theorem drive_cqAge (s : State) (w : Option Word) : (s.drive w).cqAge = s.cqAge := rfl
@[simp] theorem drive_eq (s : State) (w : Option Word) : (s.drive w).eq = s.eq := rfl
@[simp] theorem drive_eqTrigger (s : State) (w : Option Word) : (s.drive w).eqTrigger = s.eqTrigger := rfl
@[simp] theorem drive_eqAge (s : State) (w : Option Word) : (s.drive w).eqAge = s.eqAge := rfl
@[simp] theorem drive_highThreshold (s : State) (w : Option Word) :
    (s.drive w).highThreshold = s.highThreshold := rfl
@[simp] theorem drive_lowThreshold (s : State) (w : Option Word) :
    (s.drive w).lowThreshold = s.lowThreshold := rfl
@[simp] theorem drive_repeatK (s : State) (w : Option Word) : (s.drive w).repeatK = s.repeatK := rfl
@[simp] theorem drive_links (s : State) (w : Option Word) : (s.drive w).links = s.links := rfl
@[simp] theorem drive_bus (s : State) (w : Option Word) : (s.drive w).bus = { s.bus with driven := w } := rfl
@[simp] theorem drive_freeCount (s : State) (w : Option Word) : (s.drive w).freeCount = s.freeCount := rfl
@[simp] theorem drive_pending (s : State) (w : Option Word) : (s.drive w).pending = s.pending := rfl

/-! ### withStrobe -/

@[simp] theorem withStrobe_inReset (s : State) (x : Strobe) (h : Bool) :
    (s.withStrobe x h).inReset = s.inReset := rfl
@[simp] theorem withStrobe_usCount (s : State) (x : Strobe) (h : Bool) :
    (s.withStrobe x h).usCount = s.usCount := rfl
@[simp] theorem withStrobe_raddrH (s : State) (x : Strobe) (h : Bool) :
    (s.withStrobe x h).raddrH = s.raddrH := rfl
@[simp] theorem withStrobe_raddrL (s : State) (x : Strobe) (h : Bool) :
    (s.withStrobe x h).raddrL = s.raddrL := rfl
@[simp] theorem withStrobe_wdata (s : State) (x : Strobe) (h : Bool) : (s.withStrobe x h).wdata = s.wdata := rfl
@[simp] theorem withStrobe_streamAddr (s : State) (x : Strobe) (h : Bool) :
    (s.withStrobe x h).streamAddr = s.streamAddr := rfl
@[simp] theorem withStrobe_issueResult (s : State) (x : Strobe) (h : Bool) :
    (s.withStrobe x h).issueResult = s.issueResult := rfl
@[simp] theorem withStrobe_winSelect (s : State) (x : Strobe) (h : Bool) :
    (s.withStrobe x h).winSelect = s.winSelect := rfl
@[simp] theorem withStrobe_windows (s : State) (x : Strobe) (h : Bool) :
    (s.withStrobe x h).windows = s.windows := rfl
@[simp] theorem withStrobe_striped (s : State) (x : Strobe) (h : Bool) :
    (s.withStrobe x h).striped = s.striped := rfl
@[simp] theorem withStrobe_linkSelect (s : State) (x : Strobe) (h : Bool) :
    (s.withStrobe x h).linkSelect = s.linkSelect := rfl
@[simp] theorem withStrobe_cmdResult (s : State) (x : Strobe) (h : Bool) :
    (s.withStrobe x h).cmdResult = s.cmdResult := rfl
@[simp] theorem withStrobe_sticky (s : State) (x : Strobe) (h : Bool) :
    (s.withStrobe x h).sticky = s.sticky := rfl
@[simp] theorem withStrobe_intEnable (s : State) (x : Strobe) (h : Bool) :
    (s.withStrobe x h).intEnable = s.intEnable := rfl
@[simp] theorem withStrobe_tags (s : State) (x : Strobe) (h : Bool) : (s.withStrobe x h).tags = s.tags := rfl
@[simp] theorem withStrobe_cq (s : State) (x : Strobe) (h : Bool) : (s.withStrobe x h).cq = s.cq := rfl
@[simp] theorem withStrobe_cqTrigger (s : State) (x : Strobe) (h : Bool) :
    (s.withStrobe x h).cqTrigger = s.cqTrigger := rfl
@[simp] theorem withStrobe_cqAge (s : State) (x : Strobe) (h : Bool) : (s.withStrobe x h).cqAge = s.cqAge := rfl
@[simp] theorem withStrobe_eq (s : State) (x : Strobe) (h : Bool) : (s.withStrobe x h).eq = s.eq := rfl
@[simp] theorem withStrobe_eqTrigger (s : State) (x : Strobe) (h : Bool) :
    (s.withStrobe x h).eqTrigger = s.eqTrigger := rfl
@[simp] theorem withStrobe_eqAge (s : State) (x : Strobe) (h : Bool) : (s.withStrobe x h).eqAge = s.eqAge := rfl
@[simp] theorem withStrobe_highThreshold (s : State) (x : Strobe) (h : Bool) :
    (s.withStrobe x h).highThreshold = s.highThreshold := rfl
@[simp] theorem withStrobe_lowThreshold (s : State) (x : Strobe) (h : Bool) :
    (s.withStrobe x h).lowThreshold = s.lowThreshold := rfl
@[simp] theorem withStrobe_repeatK (s : State) (x : Strobe) (h : Bool) :
    (s.withStrobe x h).repeatK = s.repeatK := rfl
@[simp] theorem withStrobe_links (s : State) (x : Strobe) (h : Bool) : (s.withStrobe x h).links = s.links := rfl
@[simp] theorem withStrobe_bus (s : State) (x : Strobe) (h : Bool) :
    (s.withStrobe x h).bus = s.bus.setStrobe x h := rfl
@[simp] theorem withStrobe_freeCount (s : State) (x : Strobe) (h : Bool) :
    (s.withStrobe x h).freeCount = s.freeCount := rfl
@[simp] theorem withStrobe_pending (s : State) (x : Strobe) (h : Bool) :
    (s.withStrobe x h).pending = s.pending := rfl

/-! ### Cycles -/

/-- The cycle has nothing of the part in it but the strobes and RESET_N. -/
theorem cycle_congr {s t : State} (hc : t.bus.csN = s.bus.csN) (hr : t.bus.rdN = s.bus.rdN)
    (hw : t.bus.wrN = s.bus.wrN) (h : t.inReset = s.inReset) : t.cycle = s.cycle := by
  simp only [State.cycle, hc, hr, hw, h]

@[simp] theorem cycle_drive (s : State) (w : Option Word) : (s.drive w).cycle = s.cycle :=
  cycle_congr rfl rfl rfl rfl

theorem busCycle_eq_read (csN rdN wrN resetN : Bool) : busCycle csN rdN wrN resetN = .read ↔
    csN = false ∧ rdN = false ∧ wrN = true ∧ resetN = true := by
  cases csN <;> cases rdN <;> cases wrN <;> cases resetN <;> decide

theorem busCycle_eq_write (csN rdN wrN resetN : Bool) : busCycle csN rdN wrN resetN = .write ↔
    csN = false ∧ rdN = true ∧ wrN = false ∧ resetN = true := by
  cases csN <;> cases rdN <;> cases wrN <;> cases resetN <;> decide

theorem cycle_eq_read (s : State) : s.cycle = .read ↔
    s.bus.csN = false ∧ s.bus.rdN = false ∧ s.bus.wrN = true ∧ s.inReset = false := by
  rw [State.cycle, busCycle_eq_read, Bool.not_eq_true']

theorem cycle_eq_write (s : State) : s.cycle = .write ↔
    s.bus.csN = false ∧ s.bus.rdN = true ∧ s.bus.wrN = false ∧ s.inReset = false := by
  rw [State.cycle, busCycle_eq_write, Bool.not_eq_true']

/-! ### Edges -/

theorem busEdge_of_read_event {strobe : Strobe} {s : State} (offset : Offset) (data : Word)
    (hs : s.cycle ≠ .read) (ht : (s.withStrobe strobe false).cycle = .read) :
    busEdge strobe false offset data s =
      .next ((s.withStrobe strobe false).drive (some (registerRead s offset))) := by
  simp [busEdge, hs, ht]

theorem busEdge_of_write_event {strobe : Strobe} {s : State} (offset : Offset) (data : Word)
    (hs : s.cycle = .write) (ht : (s.withStrobe strobe true).cycle ≠ .write) :
    busEdge strobe true offset data s =
      exec (hostCommand offset data) ((s.withStrobe strobe true).drive none) := by
  simp [busEdge, hs, ht]

theorem busEdge_within_a_read {strobe : Strobe} {high : Bool} {s : State} (offset : Offset) (data : Word)
    (hs : s.cycle = .read) (ht : (s.withStrobe strobe high).cycle = .read) :
    busEdge strobe high offset data s = .next (s.withStrobe strobe high) := by
  simp [busEdge, hs, ht]

theorem busEdge_of_no_event {strobe : Strobe} {high : Bool} {s : State} (offset : Offset) (data : Word)
    (hr : (s.withStrobe strobe high).cycle = .read → s.cycle ≠ .read ∧ high = true)
    (hw : s.cycle = .write → high = true → (s.withStrobe strobe high).cycle = .write) :
    busEdge strobe high offset data s = .next ((s.withStrobe strobe high).drive none) := by
  simp only [busEdge]
  rw [if_neg fun h => (hr h.2).1 h.1, if_neg fun h => Bool.noConfusion (h.1.symm.trans (hr h.2).2),
    if_neg fun h => h.2.2 (hw h.2.1 h.1)]

end Sys2Proof.Laws
end

