-- ==== Sys2Proof/Laws/State.lean ====
section
/-! SUPPORT. One lemma per field of State for each named update: what the update leaves and what it sets. -/

namespace Sys2Proof.Laws

open Sys2Proof.Machine

/-! ### setTag -/

@[simp] theorem setTag_inReset (s : State) (i : TagId) (t : Tag) : (s.setTag i t).inReset = s.inReset := rfl
@[simp] theorem setTag_usCount (s : State) (i : TagId) (t : Tag) : (s.setTag i t).usCount = s.usCount := rfl
@[simp] theorem setTag_raddrH (s : State) (i : TagId) (t : Tag) : (s.setTag i t).raddrH = s.raddrH := rfl
@[simp] theorem setTag_raddrL (s : State) (i : TagId) (t : Tag) : (s.setTag i t).raddrL = s.raddrL := rfl
@[simp] theorem setTag_wdata (s : State) (i : TagId) (t : Tag) : (s.setTag i t).wdata = s.wdata := rfl
@[simp] theorem setTag_streamAddr (s : State) (i : TagId) (t : Tag) :
    (s.setTag i t).streamAddr = s.streamAddr := rfl
@[simp] theorem setTag_issueResult (s : State) (i : TagId) (t : Tag) :
    (s.setTag i t).issueResult = s.issueResult := rfl
@[simp] theorem setTag_winSelect (s : State) (i : TagId) (t : Tag) :
    (s.setTag i t).winSelect = s.winSelect := rfl
@[simp] theorem setTag_windows (s : State) (i : TagId) (t : Tag) : (s.setTag i t).windows = s.windows := rfl
@[simp] theorem setTag_striped (s : State) (i : TagId) (t : Tag) : (s.setTag i t).striped = s.striped := rfl
@[simp] theorem setTag_linkSelect (s : State) (i : TagId) (t : Tag) :
    (s.setTag i t).linkSelect = s.linkSelect := rfl
@[simp] theorem setTag_cmdResult (s : State) (i : TagId) (t : Tag) :
    (s.setTag i t).cmdResult = s.cmdResult := rfl
@[simp] theorem setTag_sticky (s : State) (i : TagId) (t : Tag) : (s.setTag i t).sticky = s.sticky := rfl
@[simp] theorem setTag_intEnable (s : State) (i : TagId) (t : Tag) :
    (s.setTag i t).intEnable = s.intEnable := rfl
@[simp] theorem setTag_tags (s : State) (i : TagId) (t : Tag) : (s.setTag i t).tags = s.tags.set i t := rfl
@[simp] theorem setTag_cq (s : State) (i : TagId) (t : Tag) : (s.setTag i t).cq = s.cq := rfl
@[simp] theorem setTag_cqTrigger (s : State) (i : TagId) (t : Tag) :
    (s.setTag i t).cqTrigger = s.cqTrigger := rfl
@[simp] theorem setTag_cqAge (s : State) (i : TagId) (t : Tag) : (s.setTag i t).cqAge = s.cqAge := rfl
@[simp] theorem setTag_eq (s : State) (i : TagId) (t : Tag) : (s.setTag i t).eq = s.eq := rfl
@[simp] theorem setTag_eqTrigger (s : State) (i : TagId) (t : Tag) :
    (s.setTag i t).eqTrigger = s.eqTrigger := rfl
@[simp] theorem setTag_eqAge (s : State) (i : TagId) (t : Tag) : (s.setTag i t).eqAge = s.eqAge := rfl
@[simp] theorem setTag_highThreshold (s : State) (i : TagId) (t : Tag) :
    (s.setTag i t).highThreshold = s.highThreshold := rfl
@[simp] theorem setTag_lowThreshold (s : State) (i : TagId) (t : Tag) :
    (s.setTag i t).lowThreshold = s.lowThreshold := rfl
@[simp] theorem setTag_repeatK (s : State) (i : TagId) (t : Tag) : (s.setTag i t).repeatK = s.repeatK := rfl
@[simp] theorem setTag_links (s : State) (i : TagId) (t : Tag) : (s.setTag i t).links = s.links := rfl
@[simp] theorem setTag_bus (s : State) (i : TagId) (t : Tag) :
    (s.setTag i t).bus = s.bus := rfl
@[simp] theorem setTag_freeCount (s : State) (i : TagId) (t : Tag) :
    (s.setTag i t).freeCount = s.freeCount := rfl
@[simp] theorem setTag_pending (s : State) (i : TagId) (t : Tag) : (s.setTag i t).pending = s.pending := rfl

/-! ### setLink -/

@[simp] theorem setLink_inReset (s : State) (l : LinkId) (k : Link) :
    (s.setLink l k).inReset = s.inReset := rfl
@[simp] theorem setLink_usCount (s : State) (l : LinkId) (k : Link) :
    (s.setLink l k).usCount = s.usCount := rfl
@[simp] theorem setLink_raddrH (s : State) (l : LinkId) (k : Link) : (s.setLink l k).raddrH = s.raddrH := rfl
@[simp] theorem setLink_raddrL (s : State) (l : LinkId) (k : Link) : (s.setLink l k).raddrL = s.raddrL := rfl
@[simp] theorem setLink_wdata (s : State) (l : LinkId) (k : Link) : (s.setLink l k).wdata = s.wdata := rfl
@[simp] theorem setLink_streamAddr (s : State) (l : LinkId) (k : Link) :
    (s.setLink l k).streamAddr = s.streamAddr := rfl
@[simp] theorem setLink_issueResult (s : State) (l : LinkId) (k : Link) :
    (s.setLink l k).issueResult = s.issueResult := rfl
@[simp] theorem setLink_winSelect (s : State) (l : LinkId) (k : Link) :
    (s.setLink l k).winSelect = s.winSelect := rfl
@[simp] theorem setLink_windows (s : State) (l : LinkId) (k : Link) :
    (s.setLink l k).windows = s.windows := rfl
@[simp] theorem setLink_striped (s : State) (l : LinkId) (k : Link) :
    (s.setLink l k).striped = s.striped := rfl
@[simp] theorem setLink_linkSelect (s : State) (l : LinkId) (k : Link) :
    (s.setLink l k).linkSelect = s.linkSelect := rfl
@[simp] theorem setLink_cmdResult (s : State) (l : LinkId) (k : Link) :
    (s.setLink l k).cmdResult = s.cmdResult := rfl
@[simp] theorem setLink_sticky (s : State) (l : LinkId) (k : Link) : (s.setLink l k).sticky = s.sticky := rfl
@[simp] theorem setLink_intEnable (s : State) (l : LinkId) (k : Link) :
    (s.setLink l k).intEnable = s.intEnable := rfl
@[simp] theorem setLink_tags (s : State) (l : LinkId) (k : Link) : (s.setLink l k).tags = s.tags := rfl
@[simp] theorem setLink_cq (s : State) (l : LinkId) (k : Link) : (s.setLink l k).cq = s.cq := rfl
@[simp] theorem setLink_cqTrigger (s : State) (l : LinkId) (k : Link) :
    (s.setLink l k).cqTrigger = s.cqTrigger := rfl
@[simp] theorem setLink_cqAge (s : State) (l : LinkId) (k : Link) : (s.setLink l k).cqAge = s.cqAge := rfl
@[simp] theorem setLink_eq (s : State) (l : LinkId) (k : Link) : (s.setLink l k).eq = s.eq := rfl
@[simp] theorem setLink_eqTrigger (s : State) (l : LinkId) (k : Link) :
    (s.setLink l k).eqTrigger = s.eqTrigger := rfl
@[simp] theorem setLink_eqAge (s : State) (l : LinkId) (k : Link) : (s.setLink l k).eqAge = s.eqAge := rfl
@[simp] theorem setLink_highThreshold (s : State) (l : LinkId) (k : Link) :
    (s.setLink l k).highThreshold = s.highThreshold := rfl
@[simp] theorem setLink_lowThreshold (s : State) (l : LinkId) (k : Link) :
    (s.setLink l k).lowThreshold = s.lowThreshold := rfl
@[simp] theorem setLink_repeatK (s : State) (l : LinkId) (k : Link) :
    (s.setLink l k).repeatK = s.repeatK := rfl
@[simp] theorem setLink_links (s : State) (l : LinkId) (k : Link) :
    (s.setLink l k).links = s.links.set l k := rfl
@[simp] theorem setLink_bus (s : State) (l : LinkId) (k : Link) :
    (s.setLink l k).bus = s.bus := rfl
@[simp] theorem setLink_freeCount (s : State) (l : LinkId) (k : Link) :
    (s.setLink l k).freeCount = s.freeCount := rfl
@[simp] theorem setLink_pending (s : State) (l : LinkId) (k : Link) :
    (s.setLink l k).pending = s.pending := rfl

/-! ### onLink -/

@[simp] theorem onLink_inReset (s : State) (l : LinkId) (f : Link → Link) :
    (s.onLink l f).inReset = s.inReset := rfl
@[simp] theorem onLink_usCount (s : State) (l : LinkId) (f : Link → Link) :
    (s.onLink l f).usCount = s.usCount := rfl
@[simp] theorem onLink_raddrH (s : State) (l : LinkId) (f : Link → Link) :
    (s.onLink l f).raddrH = s.raddrH := rfl
@[simp] theorem onLink_raddrL (s : State) (l : LinkId) (f : Link → Link) :
    (s.onLink l f).raddrL = s.raddrL := rfl
@[simp] theorem onLink_wdata (s : State) (l : LinkId) (f : Link → Link) :
    (s.onLink l f).wdata = s.wdata := rfl
@[simp] theorem onLink_streamAddr (s : State) (l : LinkId) (f : Link → Link) :
    (s.onLink l f).streamAddr = s.streamAddr := rfl
@[simp] theorem onLink_issueResult (s : State) (l : LinkId) (f : Link → Link) :
    (s.onLink l f).issueResult = s.issueResult := rfl
@[simp] theorem onLink_winSelect (s : State) (l : LinkId) (f : Link → Link) :
    (s.onLink l f).winSelect = s.winSelect := rfl
@[simp] theorem onLink_windows (s : State) (l : LinkId) (f : Link → Link) :
    (s.onLink l f).windows = s.windows := rfl
@[simp] theorem onLink_striped (s : State) (l : LinkId) (f : Link → Link) :
    (s.onLink l f).striped = s.striped := rfl
@[simp] theorem onLink_linkSelect (s : State) (l : LinkId) (f : Link → Link) :
    (s.onLink l f).linkSelect = s.linkSelect := rfl
@[simp] theorem onLink_cmdResult (s : State) (l : LinkId) (f : Link → Link) :
    (s.onLink l f).cmdResult = s.cmdResult := rfl
@[simp] theorem onLink_sticky (s : State) (l : LinkId) (f : Link → Link) :
    (s.onLink l f).sticky = s.sticky := rfl
@[simp] theorem onLink_intEnable (s : State) (l : LinkId) (f : Link → Link) :
    (s.onLink l f).intEnable = s.intEnable := rfl
@[simp] theorem onLink_tags (s : State) (l : LinkId) (f : Link → Link) : (s.onLink l f).tags = s.tags := rfl
@[simp] theorem onLink_cq (s : State) (l : LinkId) (f : Link → Link) : (s.onLink l f).cq = s.cq := rfl
@[simp] theorem onLink_cqTrigger (s : State) (l : LinkId) (f : Link → Link) :
    (s.onLink l f).cqTrigger = s.cqTrigger := rfl
@[simp] theorem onLink_cqAge (s : State) (l : LinkId) (f : Link → Link) :
    (s.onLink l f).cqAge = s.cqAge := rfl
@[simp] theorem onLink_eq (s : State) (l : LinkId) (f : Link → Link) : (s.onLink l f).eq = s.eq := rfl
@[simp] theorem onLink_eqTrigger (s : State) (l : LinkId) (f : Link → Link) :
    (s.onLink l f).eqTrigger = s.eqTrigger := rfl
@[simp] theorem onLink_eqAge (s : State) (l : LinkId) (f : Link → Link) :
    (s.onLink l f).eqAge = s.eqAge := rfl
@[simp] theorem onLink_highThreshold (s : State) (l : LinkId) (f : Link → Link) :
    (s.onLink l f).highThreshold = s.highThreshold := rfl
@[simp] theorem onLink_lowThreshold (s : State) (l : LinkId) (f : Link → Link) :
    (s.onLink l f).lowThreshold = s.lowThreshold := rfl
@[simp] theorem onLink_repeatK (s : State) (l : LinkId) (f : Link → Link) :
    (s.onLink l f).repeatK = s.repeatK := rfl
@[simp] theorem onLink_links (s : State) (l : LinkId) (f : Link → Link) :
    (s.onLink l f).links = s.links.set l (f (s.link l)) := rfl
@[simp] theorem onLink_bus (s : State) (l : LinkId) (f : Link → Link) :
    (s.onLink l f).bus = s.bus := rfl
@[simp] theorem onLink_freeCount (s : State) (l : LinkId) (f : Link → Link) :
    (s.onLink l f).freeCount = s.freeCount := rfl
@[simp] theorem onLink_pending (s : State) (l : LinkId) (f : Link → Link) :
    (s.onLink l f).pending = s.pending := rfl

/-! ### raiseBit -/

@[simp] theorem raiseBit_inReset (s : State) (bit : Word) : (s.raiseBit bit).inReset = s.inReset := rfl
@[simp] theorem raiseBit_usCount (s : State) (bit : Word) : (s.raiseBit bit).usCount = s.usCount := rfl
@[simp] theorem raiseBit_raddrH (s : State) (bit : Word) : (s.raiseBit bit).raddrH = s.raddrH := rfl
@[simp] theorem raiseBit_raddrL (s : State) (bit : Word) : (s.raiseBit bit).raddrL = s.raddrL := rfl
@[simp] theorem raiseBit_wdata (s : State) (bit : Word) : (s.raiseBit bit).wdata = s.wdata := rfl
@[simp] theorem raiseBit_streamAddr (s : State) (bit : Word) :
    (s.raiseBit bit).streamAddr = s.streamAddr := rfl
@[simp] theorem raiseBit_issueResult (s : State) (bit : Word) :
    (s.raiseBit bit).issueResult = s.issueResult := rfl
@[simp] theorem raiseBit_winSelect (s : State) (bit : Word) : (s.raiseBit bit).winSelect = s.winSelect := rfl
@[simp] theorem raiseBit_windows (s : State) (bit : Word) : (s.raiseBit bit).windows = s.windows := rfl
@[simp] theorem raiseBit_striped (s : State) (bit : Word) : (s.raiseBit bit).striped = s.striped := rfl
@[simp] theorem raiseBit_linkSelect (s : State) (bit : Word) :
    (s.raiseBit bit).linkSelect = s.linkSelect := rfl
@[simp] theorem raiseBit_cmdResult (s : State) (bit : Word) : (s.raiseBit bit).cmdResult = s.cmdResult := rfl
@[simp] theorem raiseBit_sticky (s : State) (bit : Word) : (s.raiseBit bit).sticky = s.sticky ||| bit := rfl
@[simp] theorem raiseBit_intEnable (s : State) (bit : Word) : (s.raiseBit bit).intEnable = s.intEnable := rfl
@[simp] theorem raiseBit_tags (s : State) (bit : Word) : (s.raiseBit bit).tags = s.tags := rfl
@[simp] theorem raiseBit_cq (s : State) (bit : Word) : (s.raiseBit bit).cq = s.cq := rfl
@[simp] theorem raiseBit_cqTrigger (s : State) (bit : Word) : (s.raiseBit bit).cqTrigger = s.cqTrigger := rfl
@[simp] theorem raiseBit_cqAge (s : State) (bit : Word) : (s.raiseBit bit).cqAge = s.cqAge := rfl
@[simp] theorem raiseBit_eq (s : State) (bit : Word) : (s.raiseBit bit).eq = s.eq := rfl
@[simp] theorem raiseBit_eqTrigger (s : State) (bit : Word) : (s.raiseBit bit).eqTrigger = s.eqTrigger := rfl
@[simp] theorem raiseBit_eqAge (s : State) (bit : Word) : (s.raiseBit bit).eqAge = s.eqAge := rfl
@[simp] theorem raiseBit_highThreshold (s : State) (bit : Word) :
    (s.raiseBit bit).highThreshold = s.highThreshold := rfl
@[simp] theorem raiseBit_lowThreshold (s : State) (bit : Word) :
    (s.raiseBit bit).lowThreshold = s.lowThreshold := rfl
@[simp] theorem raiseBit_repeatK (s : State) (bit : Word) : (s.raiseBit bit).repeatK = s.repeatK := rfl
@[simp] theorem raiseBit_links (s : State) (bit : Word) : (s.raiseBit bit).links = s.links := rfl
@[simp] theorem raiseBit_bus (s : State) (bit : Word) : (s.raiseBit bit).bus = s.bus := rfl
@[simp] theorem raiseBit_freeCount (s : State) (bit : Word) : (s.raiseBit bit).freeCount = s.freeCount := rfl
@[simp] theorem raiseBit_pending (s : State) (bit : Word) : (s.raiseBit bit).pending = s.pending := rfl

/-! ### nextFree -/

@[simp] theorem nextFree_inReset (s : State) : (s.nextFree).inReset = s.inReset := rfl
@[simp] theorem nextFree_usCount (s : State) : (s.nextFree).usCount = s.usCount := rfl
@[simp] theorem nextFree_raddrH (s : State) : (s.nextFree).raddrH = s.raddrH := rfl
@[simp] theorem nextFree_raddrL (s : State) : (s.nextFree).raddrL = s.raddrL := rfl
@[simp] theorem nextFree_wdata (s : State) : (s.nextFree).wdata = s.wdata := rfl
@[simp] theorem nextFree_streamAddr (s : State) : (s.nextFree).streamAddr = s.streamAddr := rfl
@[simp] theorem nextFree_issueResult (s : State) : (s.nextFree).issueResult = s.issueResult := rfl
@[simp] theorem nextFree_winSelect (s : State) : (s.nextFree).winSelect = s.winSelect := rfl
@[simp] theorem nextFree_windows (s : State) : (s.nextFree).windows = s.windows := rfl
@[simp] theorem nextFree_striped (s : State) : (s.nextFree).striped = s.striped := rfl
@[simp] theorem nextFree_linkSelect (s : State) : (s.nextFree).linkSelect = s.linkSelect := rfl
@[simp] theorem nextFree_cmdResult (s : State) : (s.nextFree).cmdResult = s.cmdResult := rfl
@[simp] theorem nextFree_sticky (s : State) : (s.nextFree).sticky = s.sticky := rfl
@[simp] theorem nextFree_intEnable (s : State) : (s.nextFree).intEnable = s.intEnable := rfl
@[simp] theorem nextFree_tags (s : State) : (s.nextFree).tags = s.tags := rfl
@[simp] theorem nextFree_cq (s : State) : (s.nextFree).cq = s.cq := rfl
@[simp] theorem nextFree_cqTrigger (s : State) : (s.nextFree).cqTrigger = s.cqTrigger := rfl
@[simp] theorem nextFree_cqAge (s : State) : (s.nextFree).cqAge = s.cqAge := rfl
@[simp] theorem nextFree_eq (s : State) : (s.nextFree).eq = s.eq := rfl
@[simp] theorem nextFree_eqTrigger (s : State) : (s.nextFree).eqTrigger = s.eqTrigger := rfl
@[simp] theorem nextFree_eqAge (s : State) : (s.nextFree).eqAge = s.eqAge := rfl
@[simp] theorem nextFree_highThreshold (s : State) : (s.nextFree).highThreshold = s.highThreshold := rfl
@[simp] theorem nextFree_lowThreshold (s : State) : (s.nextFree).lowThreshold = s.lowThreshold := rfl
@[simp] theorem nextFree_repeatK (s : State) : (s.nextFree).repeatK = s.repeatK := rfl
@[simp] theorem nextFree_links (s : State) : (s.nextFree).links = s.links := rfl
@[simp] theorem nextFree_bus (s : State) : (s.nextFree).bus = s.bus := rfl
@[simp] theorem nextFree_freeCount (s : State) : (s.nextFree).freeCount = s.freeCount + 1 := rfl
@[simp] theorem nextFree_pending (s : State) : (s.nextFree).pending = s.pending := rfl

/-! ### report -/

@[simp] theorem report_inReset (s : State) (o : IssueOutcome) (t : Option Target) (tag : Option (TagId × Gen)) :
    (report s o t tag).inReset = s.inReset := rfl
@[simp] theorem report_usCount (s : State) (o : IssueOutcome) (t : Option Target) (tag : Option (TagId × Gen)) :
    (report s o t tag).usCount = s.usCount := rfl
@[simp] theorem report_raddrH (s : State) (o : IssueOutcome) (t : Option Target) (tag : Option (TagId × Gen)) :
    (report s o t tag).raddrH = s.raddrH := rfl
@[simp] theorem report_raddrL (s : State) (o : IssueOutcome) (t : Option Target) (tag : Option (TagId × Gen)) :
    (report s o t tag).raddrL = s.raddrL := rfl
@[simp] theorem report_wdata (s : State) (o : IssueOutcome) (t : Option Target) (tag : Option (TagId × Gen)) :
    (report s o t tag).wdata = s.wdata := rfl
@[simp] theorem report_streamAddr (s : State) (o : IssueOutcome) (t : Option Target) (tag : Option (TagId × Gen)) :
    (report s o t tag).streamAddr = s.streamAddr := rfl
@[simp] theorem report_issueResult (s : State) (o : IssueOutcome) (t : Option Target) (tag : Option (TagId × Gen)) :
    (report s o t tag).issueResult = { outcome := o, window := t.map (·.window), link := t.map (·.link), tag := tag } := rfl
@[simp] theorem report_winSelect (s : State) (o : IssueOutcome) (t : Option Target) (tag : Option (TagId × Gen)) :
    (report s o t tag).winSelect = s.winSelect := rfl
@[simp] theorem report_windows (s : State) (o : IssueOutcome) (t : Option Target) (tag : Option (TagId × Gen)) :
    (report s o t tag).windows = s.windows := rfl
@[simp] theorem report_striped (s : State) (o : IssueOutcome) (t : Option Target) (tag : Option (TagId × Gen)) :
    (report s o t tag).striped = s.striped := rfl
@[simp] theorem report_linkSelect (s : State) (o : IssueOutcome) (t : Option Target) (tag : Option (TagId × Gen)) :
    (report s o t tag).linkSelect = s.linkSelect := rfl
@[simp] theorem report_cmdResult (s : State) (o : IssueOutcome) (t : Option Target) (tag : Option (TagId × Gen)) :
    (report s o t tag).cmdResult = s.cmdResult := rfl
@[simp] theorem report_sticky (s : State) (o : IssueOutcome) (t : Option Target) (tag : Option (TagId × Gen)) :
    (report s o t tag).sticky = s.sticky := rfl
@[simp] theorem report_intEnable (s : State) (o : IssueOutcome) (t : Option Target) (tag : Option (TagId × Gen)) :
    (report s o t tag).intEnable = s.intEnable := rfl
@[simp] theorem report_tags (s : State) (o : IssueOutcome) (t : Option Target) (tag : Option (TagId × Gen)) :
    (report s o t tag).tags = s.tags := rfl
@[simp] theorem report_cq (s : State) (o : IssueOutcome) (t : Option Target) (tag : Option (TagId × Gen)) :
    (report s o t tag).cq = s.cq := rfl
@[simp] theorem report_cqTrigger (s : State) (o : IssueOutcome) (t : Option Target) (tag : Option (TagId × Gen)) :
    (report s o t tag).cqTrigger = s.cqTrigger := rfl
@[simp] theorem report_cqAge (s : State) (o : IssueOutcome) (t : Option Target) (tag : Option (TagId × Gen)) :
    (report s o t tag).cqAge = s.cqAge := rfl
@[simp] theorem report_eq (s : State) (o : IssueOutcome) (t : Option Target) (tag : Option (TagId × Gen)) :
    (report s o t tag).eq = s.eq := rfl
@[simp] theorem report_eqTrigger (s : State) (o : IssueOutcome) (t : Option Target) (tag : Option (TagId × Gen)) :
    (report s o t tag).eqTrigger = s.eqTrigger := rfl
@[simp] theorem report_eqAge (s : State) (o : IssueOutcome) (t : Option Target) (tag : Option (TagId × Gen)) :
    (report s o t tag).eqAge = s.eqAge := rfl
@[simp] theorem report_highThreshold (s : State) (o : IssueOutcome) (t : Option Target) (tag : Option (TagId × Gen)) :
    (report s o t tag).highThreshold = s.highThreshold := rfl
@[simp] theorem report_lowThreshold (s : State) (o : IssueOutcome) (t : Option Target) (tag : Option (TagId × Gen)) :
    (report s o t tag).lowThreshold = s.lowThreshold := rfl
@[simp] theorem report_repeatK (s : State) (o : IssueOutcome) (t : Option Target) (tag : Option (TagId × Gen)) :
    (report s o t tag).repeatK = s.repeatK := rfl
@[simp] theorem report_links (s : State) (o : IssueOutcome) (t : Option Target) (tag : Option (TagId × Gen)) :
    (report s o t tag).links = s.links := rfl
@[simp] theorem report_bus (s : State) (o : IssueOutcome) (t : Option Target) (tag : Option (TagId × Gen)) :
    (report s o t tag).bus = s.bus := rfl
@[simp] theorem report_freeCount (s : State) (o : IssueOutcome) (t : Option Target) (tag : Option (TagId × Gen)) :
    (report s o t tag).freeCount = s.freeCount := rfl
@[simp] theorem report_pending (s : State) (o : IssueOutcome) (t : Option Target) (tag : Option (TagId × Gen)) :
    (report s o t tag).pending = s.pending := rfl

/-! ### reportCommand -/

@[simp] theorem reportCommand_inReset (s : State) (o : CmdOutcome) (c : CmdCode) :
    (reportCommand s o c).inReset = s.inReset := rfl
@[simp] theorem reportCommand_usCount (s : State) (o : CmdOutcome) (c : CmdCode) :
    (reportCommand s o c).usCount = s.usCount := rfl
@[simp] theorem reportCommand_raddrH (s : State) (o : CmdOutcome) (c : CmdCode) :
    (reportCommand s o c).raddrH = s.raddrH := rfl
@[simp] theorem reportCommand_raddrL (s : State) (o : CmdOutcome) (c : CmdCode) :
    (reportCommand s o c).raddrL = s.raddrL := rfl
@[simp] theorem reportCommand_wdata (s : State) (o : CmdOutcome) (c : CmdCode) :
    (reportCommand s o c).wdata = s.wdata := rfl
@[simp] theorem reportCommand_streamAddr (s : State) (o : CmdOutcome) (c : CmdCode) :
    (reportCommand s o c).streamAddr = s.streamAddr := rfl
@[simp] theorem reportCommand_issueResult (s : State) (o : CmdOutcome) (c : CmdCode) :
    (reportCommand s o c).issueResult = s.issueResult := rfl
@[simp] theorem reportCommand_winSelect (s : State) (o : CmdOutcome) (c : CmdCode) :
    (reportCommand s o c).winSelect = s.winSelect := rfl
@[simp] theorem reportCommand_windows (s : State) (o : CmdOutcome) (c : CmdCode) :
    (reportCommand s o c).windows = s.windows := rfl
@[simp] theorem reportCommand_striped (s : State) (o : CmdOutcome) (c : CmdCode) :
    (reportCommand s o c).striped = s.striped := rfl
@[simp] theorem reportCommand_linkSelect (s : State) (o : CmdOutcome) (c : CmdCode) :
    (reportCommand s o c).linkSelect = s.linkSelect := rfl
@[simp] theorem reportCommand_cmdResult (s : State) (o : CmdOutcome) (c : CmdCode) :
    (reportCommand s o c).cmdResult = { outcome := o, command := c, link := s.linkSelect } := rfl
@[simp] theorem reportCommand_sticky (s : State) (o : CmdOutcome) (c : CmdCode) :
    (reportCommand s o c).sticky = s.sticky := rfl
@[simp] theorem reportCommand_intEnable (s : State) (o : CmdOutcome) (c : CmdCode) :
    (reportCommand s o c).intEnable = s.intEnable := rfl
@[simp] theorem reportCommand_tags (s : State) (o : CmdOutcome) (c : CmdCode) :
    (reportCommand s o c).tags = s.tags := rfl
@[simp] theorem reportCommand_cq (s : State) (o : CmdOutcome) (c : CmdCode) :
    (reportCommand s o c).cq = s.cq := rfl
@[simp] theorem reportCommand_cqTrigger (s : State) (o : CmdOutcome) (c : CmdCode) :
    (reportCommand s o c).cqTrigger = s.cqTrigger := rfl
@[simp] theorem reportCommand_cqAge (s : State) (o : CmdOutcome) (c : CmdCode) :
    (reportCommand s o c).cqAge = s.cqAge := rfl
@[simp] theorem reportCommand_eq (s : State) (o : CmdOutcome) (c : CmdCode) :
    (reportCommand s o c).eq = s.eq := rfl
@[simp] theorem reportCommand_eqTrigger (s : State) (o : CmdOutcome) (c : CmdCode) :
    (reportCommand s o c).eqTrigger = s.eqTrigger := rfl
@[simp] theorem reportCommand_eqAge (s : State) (o : CmdOutcome) (c : CmdCode) :
    (reportCommand s o c).eqAge = s.eqAge := rfl
@[simp] theorem reportCommand_highThreshold (s : State) (o : CmdOutcome) (c : CmdCode) :
    (reportCommand s o c).highThreshold = s.highThreshold := rfl
@[simp] theorem reportCommand_lowThreshold (s : State) (o : CmdOutcome) (c : CmdCode) :
    (reportCommand s o c).lowThreshold = s.lowThreshold := rfl
@[simp] theorem reportCommand_repeatK (s : State) (o : CmdOutcome) (c : CmdCode) :
    (reportCommand s o c).repeatK = s.repeatK := rfl
@[simp] theorem reportCommand_links (s : State) (o : CmdOutcome) (c : CmdCode) :
    (reportCommand s o c).links = s.links := rfl
@[simp] theorem reportCommand_bus (s : State) (o : CmdOutcome) (c : CmdCode) :
    (reportCommand s o c).bus = s.bus := rfl
@[simp] theorem reportCommand_freeCount (s : State) (o : CmdOutcome) (c : CmdCode) :
    (reportCommand s o c).freeCount = s.freeCount := rfl
@[simp] theorem reportCommand_pending (s : State) (o : CmdOutcome) (c : CmdCode) :
    (reportCommand s o c).pending = s.pending := rfl

/-! ### Reading a table -/

theorem getElem_mapTable {α : Type} {n : Nat} (f : α → α) (v : Vector α n) (i : Fin n) :
    (mapTable f v)[i] = f v[i] := by
  simp [mapTable]

theorem tag_setTag (s : State) (i j : TagId) (t : Tag) :
    (s.setTag i t).tag j = if i = j then t else s.tag j := by
  simp [State.tag, State.setTag, Vector.getElem_set, Fin.ext_iff]

@[simp] theorem tag_setTag_self (s : State) (i : TagId) (t : Tag) : (s.setTag i t).tag i = t := by
  simp [tag_setTag]

theorem tag_setTag_of_ne (s : State) {i j : TagId} (t : Tag) (h : j ≠ i) :
    (s.setTag i t).tag j = s.tag j := by
  simp [tag_setTag, h.symm]

theorem link_setLink (s : State) (l m : LinkId) (k : Link) :
    (s.setLink l k).link m = if l = m then k else s.link m := by
  simp [State.link, State.setLink, Vector.getElem_set, Fin.ext_iff]

@[simp] theorem link_setLink_self (s : State) (l : LinkId) (k : Link) : (s.setLink l k).link l = k := by
  simp [link_setLink]

theorem link_setLink_of_ne (s : State) {l m : LinkId} (k : Link) (h : m ≠ l) :
    (s.setLink l k).link m = s.link m := by
  simp [link_setLink, h.symm]

theorem link_onLink (s : State) (l m : LinkId) (f : Link → Link) :
    (s.onLink l f).link m = if l = m then f (s.link l) else s.link m := link_setLink s l m _

@[simp] theorem link_onLink_self (s : State) (l : LinkId) (f : Link → Link) :
    (s.onLink l f).link l = f (s.link l) := by simp [link_onLink]

theorem link_onLink_of_ne (s : State) {l m : LinkId} (f : Link → Link) (h : m ≠ l) :
    (s.onLink l f).link m = s.link m := by simp [link_onLink, h.symm]

@[simp] theorem link_setTag (s : State) (i : TagId) (t : Tag) (l : LinkId) :
    (s.setTag i t).link l = s.link l := rfl

@[simp] theorem tag_setLink (s : State) (l : LinkId) (k : Link) (i : TagId) :
    (s.setLink l k).tag i = s.tag i := rfl

@[simp] theorem tag_onLink (s : State) (l : LinkId) (f : Link → Link) (i : TagId) :
    (s.onLink l f).tag i = s.tag i := rfl

@[simp] theorem link_raiseBit (s : State) (bit : Word) (l : LinkId) : (s.raiseBit bit).link l = s.link l := rfl

@[simp] theorem tag_raiseBit (s : State) (bit : Word) (i : TagId) : (s.raiseBit bit).tag i = s.tag i := rfl

@[simp] theorem link_nextFree (s : State) (l : LinkId) : s.nextFree.link l = s.link l := rfl

@[simp] theorem tag_nextFree (s : State) (i : TagId) : s.nextFree.tag i = s.tag i := rfl

/-! ### Writing a table twice -/

@[simp] theorem setLink_setLink (s : State) (l : LinkId) (j k : Link) :
    (s.setLink l j).setLink l k = s.setLink l k := by
  simp [State.setLink]

@[simp] theorem setLink_link (s : State) (l : LinkId) : s.setLink l (s.link l) = s := by
  simp [State.setLink, State.link]

@[simp] theorem onLink_onLink (s : State) (l : LinkId) (f g : Link → Link) :
    (s.onLink l f).onLink l g = s.onLink l (fun k => g (f k)) := by
  simp [State.onLink]

theorem onLink_eq_setLink (s : State) (l : LinkId) (f : Link → Link) :
    s.onLink l f = s.setLink l (f (s.link l)) := rfl

theorem setTag_setTag (s : State) (i : TagId) (t u : Tag) : (s.setTag i t).setTag i u = s.setTag i u := by
  simp [State.setTag]

theorem setTag_setLink (s : State) (i : TagId) (t : Tag) (l : LinkId) (k : Link) :
    (s.setLink l k).setTag i t = (s.setTag i t).setLink l k := rfl

/-- Two states are equal where their tags, their links and every other field are. -/
theorem state_ext {s t : State} (h : t = { s with tags := t.tags, links := t.links })
    (tags : ∀ i, t.tag i = s.tag i) (links : ∀ l, t.link l = s.link l) : t = s := by
  have ht : t.tags = s.tags := Vector.ext fun i hi => tags ⟨i, hi⟩
  have hl : t.links = s.links := Vector.ext fun i hi => links ⟨i, hi⟩
  rw [h, ht, hl]

end Sys2Proof.Laws
end

