-- ==== Sys2Proof/Laws/Ops.lean ====
section
/-! SUPPORT. What each shared operation can do, said once: the scheduler (refill, pick, schedule), completion,
abort, flush, going down and failure, entry into UP, and the replay pass. -/

namespace Sys2Proof.Laws

open Sys2Proof.Machine

/-! ### Re-entry from the ready-deferred list -/

/-- A state after every tag of a list is put in QUEUED. -/
theorem foldl_queued_frame (ids : List TagId) (s : State) :
    ids.foldl (fun s i => s.setTag i { s.tag i with state := .queued }) s =
      { s with tags := (ids.foldl (fun s i => s.setTag i { s.tag i with state := .queued }) s).tags } := by
  induction ids generalizing s with
  | nil => rfl
  | cons i rest ih => rw [List.foldl_cons, ih]; rfl

theorem foldl_queued_tag (ids : List TagId) (s : State) (j : TagId) :
    (ids.foldl (fun s i => s.setTag i { s.tag i with state := .queued }) s).tag j =
      if j ∈ ids then { s.tag j with state := .queued } else s.tag j := by
  induction ids generalizing s with
  | nil => simp
  | cons i rest ih =>
    rw [List.foldl_cons, ih, tag_setTag]
    by_cases h : i = j
    · subst h; simp
    · simp [h, Ne.symm h]

theorem refill_frame (s : State) (l : LinkId) :
    refill s l = { s with tags := (refill s l).tags, links := (refill s l).links } := by
  simp only [refill]; rw [foldl_queued_frame]; rfl

theorem refill_tag (s : State) (l : LinkId) (i : TagId) :
    (refill s l).tag i = if i ∈ (s.link l).sch.ready.take (s.link l).freeSlots
      then { s.tag i with state := .queued } else s.tag i := by
  simp only [refill]; rw [foldl_queued_tag]; simp

theorem refill_link (s : State) (l m : LinkId) :
    (refill s l).link m = if l = m then { s.link l with sch := { (s.link l).sch with
      txq := (s.link l).sch.txq ++ ((s.link l).sch.ready.take (s.link l).freeSlots).map .ref
      ready := (s.link l).sch.ready.drop (s.link l).freeSlots } } else s.link m := by
  simp only [refill]; rw [foldl_queued_frame]; exact link_setLink ..

@[simp] theorem refill_of_ready_nil (s : State) (l : LinkId) (h : (s.link l).sch.ready = []) :
    refill s l = s := by
  have : (s.link l).sch = { (s.link l).sch with txq := (s.link l).sch.txq, ready := [] } := by rw [← h]
  simp only [refill, h, List.take_nil, List.map_nil, List.append_nil, List.drop_nil, List.foldl_nil]
  rw [← this]; exact setLink_link s l

/-! ### The pick -/

theorem pick_of_busy {tags : Vector Tag 32} {k : Link} (h : k.sch.tx ≠ .idle) : pick tags k = k := by
  simp [pick, h]

theorem pick_of_down {tags : Vector Tag 32} {k : Link} (h : k.ctl.state = .off ∨ k.ctl.state = .failed) :
    pick tags k = k := by
  unfold pick; rcases h with h | h <;> simp [h]

/-- A pick changes what the scheduler holds and the position of a pass, and nothing else of its link. -/
theorem pick_frame (tags : Vector Tag 32) (k : Link) :
    pick tags k = { k with
      sch := (pick tags k).sch, pst := { k.pst with pass := (pick tags k).pst.pass } } := by
  simp only [pick, pickUp, pickTraining, pickTraffic, Link.send]
  repeat' split
  all_goals rfl

/-- A pick keeps the ready-deferred list, the pauses and the HOLD timer, and the entries of the queue. -/
theorem pick_sch (tags : Vector Tag 32) (k : Link) :
    (pick tags k).sch.txq = k.sch.txq ∧ (pick tags k).sch.ready = k.sch.ready ∧
    (pick tags k).sch.outPause = k.sch.outPause ∧ (pick tags k).sch.holdTimer = k.sch.holdTimer := by
  simp only [pick, pickUp, pickTraining, pickTraffic, Link.send]
  repeat' split
  all_goals exact ⟨rfl, rfl, rfl, rfl⟩

/-! ### The end of an event -/

theorem schedule_of_ready_nil (s : State) (l : LinkId) (h : (s.link l).sch.ready = []) :
    schedule s l = s.setLink l (pick s.tags (s.link l)) := by
  simp [schedule, h, onLink_eq_setLink]

theorem schedule_frame (s : State) (l : LinkId) :
    schedule s l = { s with tags := (schedule s l).tags, links := (schedule s l).links } := by
  simp only [schedule]
  conv_lhs => rw [refill_frame]
  rfl

theorem schedule_tag (s : State) (l : LinkId) (i : TagId) :
    (schedule s l).tag i = if i ∈ (s.link l).sch.ready.take (s.link l).freeSlots
      then { s.tag i with state := .queued } else s.tag i := by
  simp only [schedule, tag_onLink]; exact refill_tag s l i

theorem schedule_link_of_ne (s : State) {l m : LinkId} (h : m ≠ l) :
    (schedule s l).link m = s.link m := by
  simp only [schedule]; rw [link_onLink_of_ne _ _ h, refill_link, if_neg h.symm]

theorem schedule_link_self (s : State) (l : LinkId) :
    (schedule s l).link l = pick (refill s l).tags ((refill s l).link l) := by
  simp only [schedule, link_onLink_self]

/-- The end of an event on a link that is down, with nothing in its ready-deferred list, changes nothing. -/
theorem schedule_of_down (s : State) (l : LinkId) (h : (s.link l).sch.ready = [])
    (hd : (s.link l).ctl.state = .off ∨ (s.link l).ctl.state = .failed) : schedule s l = s := by
  rw [schedule_of_ready_nil s l h, pick_of_down hd, setLink_link]

/-! ### Completion -/

theorem completeTag_frame (s : State) (i : TagId) (r : Result) :
    completeTag s i r = { s with
      tags := (completeTag s i r).tags, links := (completeTag s i r).links
      cq := s.cq ++ [recordOf i (s.tag i) r] } := rfl

theorem completeTag_tag (s : State) (i j : TagId) (r : Result) :
    (completeTag s i r).tag j = if i = j then (s.tag i).completed r else s.tag j := by
  show (s.setTag i _).tag j = _; exact tag_setTag ..

theorem completeTag_link (s : State) (i : TagId) (r : Result) (l : LinkId) :
    (completeTag s i r).link l =
      if (s.tag i).link = l then Link.dropTag i (s.link (s.tag i).link) else s.link l := by
  show ((s.setTag i _).onLink _ _).link l = _; exact link_onLink ..

/-! ### Abort and flush -/

theorem lineBytes_ne_nil (f : TxFrame) : 0 < (lineBytes f).length := by
  simp [lineBytes, frameOnLine]

theorem abortTx_abortedTo (n : Nat) (l : LinkId) (tx : Transmitter) : AbortedTo tx (abortTx n l tx) := by
  cases tx with
  | idle => rfl
  | sending f src => exact ⟨_, Nat.mod_lt _ (lineBytes_ne_nil f), rfl⟩
  | aborting rest => rfl

theorem flush_frame (s : State) (l : LinkId) (status : Status) (keep : Bool) :
    flush s l status keep = { s with
      tags := (flush s l status keep).tags, links := (flush s l status keep).links
      cq := s.cq ++ (flushTags s l).map (fun i => recordOf i (s.tag i) (plainResult status))
      freeCount := s.freeCount + 1 } := rfl

theorem flush_tag (s : State) (l : LinkId) (status : Status) (keep : Bool) (i : TagId) :
    (flush s l status keep).tag i = (s.tag i).flushedOn l status := getElem_mapTable ..

theorem flush_link (s : State) (l m : LinkId) (status : Status) (keep : Bool) :
    (flush s l status keep).link m =
      if l = m then (s.link l).flushed s.freeCount l keep else s.link m := link_onLink ..

/-! ### Going down, failure, entry into UP -/

theorem takeDown_of_up (s : State) (l : LinkId) (status : Status) (h : (s.link l).ctl.state = .up) :
    takeDown s l status = (flush s l status false).onLink l (fun k => { k with
      ctl := { k.ctl with helloTimer := none }
      sch := { k.sch with helloDue := false, helloAckPending := false }
      evs := k.evs.leaveUp }) := by
  simp [takeDown, h]

theorem takeDown_of_not_up (s : State) (l : LinkId) (status : Status) (h : (s.link l).ctl.state ≠ .up) :
    takeDown s l status = { s with freeCount := s.freeCount + 1 }.onLink l (fun k => { k with
      ctl := { k.ctl with helloTimer := none }
      sch := { k.sch with
        tx := abortTx s.freeCount l k.sch.tx, helloDue := false, helloAckPending := false } }) := by
  simp only [takeDown, if_neg h]
  simp only [State.onLink, State.nextFree, Link.abort, State.setLink, State.link]
  simp

theorem failLink_eq (s : State) (l : LinkId) (cause : FailCause) :
    failLink s l cause = ((takeDown s l .linkDown).onLink l (fun k => { k with
      ctl := { k.ctl with cause := cause, state := .failed } })).raiseBit (linkChangeBit l) := by
  simp [failLink, enterState]

/-! ### Replay passes -/

theorem askPass_of_le (s : State) (l : LinkId)
    (h : (s.link l).pst.attempts + 1 ≤ (s.link l).cfg.replayLimit) :
    askPass s l = s.onLink l (fun k => { k with pst := { k.pst with
      attempts := k.pst.attempts + 1, pass := .active (k.pst.replay.head?.map (·.seq)), timer := none
      duplicates := 0 } }) := by
  simp [askPass, PostedState.startPass, Nat.not_lt.mpr h]

theorem askPass_of_lt (s : State) (l : LinkId)
    (h : (s.link l).cfg.replayLimit < (s.link l).pst.attempts + 1) :
    askPass s l = failLink (s.onLink l (fun k => { k with pst := { k.pst with
      attempts := k.pst.attempts + 1 } })) l .replayExhausted := by
  simp [askPass, h]

theorem endPass_of_nil (s : State) (l : LinkId) (h : (s.link l).pst.replay = []) :
    endPass s l = s.onLink l (fun k => { k with pst := { k.pst with pass := .none } }) := by
  simp [endPass, h]

theorem endPass_of_duplicates (s : State) (l : LinkId) (h : (s.link l).pst.replay ≠ [])
    (hd : (s.link l).pst.duplicates = 2) :
    endPass s l = askPass (s.onLink l (fun k => { k with pst := { k.pst with pass := .none } })) l := by
  simp [endPass, h, hd]

theorem endPass_starts_timer (s : State) (l : LinkId) (h : (s.link l).pst.replay ≠ [])
    (hd : (s.link l).pst.duplicates ≠ 2) :
    endPass s l = s.onLink l (fun k => { k with pst := { k.pst with
      pass := .none, timer := k.replayStart } }) := by
  simp [endPass, h, hd, Link.replayStart]

/-! ### Outcomes -/

theorem unlessReset_of_running (s s' : State) (h : s.inReset = false) : unlessReset s s' = .next s' := by
  simp [unlessReset, h]

theorem unlessReset_of_reset (s s' : State) (h : s.inReset = true) : unlessReset s s' = .next s := by
  simp [unlessReset, h]

end Sys2Proof.Laws
end

