-- ==== Sys2Proof/Tests/Slice0.lean ====
section
/-! SUPPORT. Tests: the well-formedness smoke tests, the register writes as commands, the data sheet's worked
examples one event at a time, and for each statement that has hypotheses a witness that meets them. -/

namespace Sys2Proof.Tests

open Sys2Proof Sys2Proof.Machine

set_option maxRecDepth 20000

/-- The state that a command leaves. -/
def after (c : Instr) (s : State) : State :=
  match exec c s with
  | .next t => t
  | .fault f => nomatch f
  | .refused _ => s

/-! ### Well-formed commands, each check refusing an ill-formed one -/

theorem test_bad_kind_refuses_the_kinds : (Instr.badKind 1).wellFormed = false ∧
    (Instr.badKind 2).wellFormed = false ∧ (Instr.badKind 3).wellFormed = false ∧
    (Instr.badKind 5).wellFormed = true := by decide

theorem test_bad_command_refuses_the_commands : (Instr.badCommand 1).wellFormed = false ∧
    (Instr.badCommand 2).wellFormed = false ∧ (Instr.badCommand 0).wellFormed = true := by decide

theorem test_config_write_refuses_other_rows : (Instr.configWrite 0x00 1).wellFormed = false ∧
    (Instr.configWrite 0x19 4).wellFormed = false ∧ (Instr.configWrite 0x00 2).wellFormed = true ∧
    (Instr.configWrite 0x2A 0).wellFormed = true := by decide

theorem test_age_increment_refuses_positions_beyond_a_queue :
    (Instr.ageCountIncrement .completion 32).wellFormed = false ∧
    (Instr.ageCountIncrement .event 64).wellFormed = false ∧
    (Instr.ageCountIncrement .completion 31).wellFormed = true ∧
    (Instr.ageCountIncrement .event 63).wellFormed = true := by decide

/-! ### Register writes as commands (R97, R144, R176, R183) -/

theorem test_issue_values : hostCommand 0x07 1 = .issueWrite ∧ hostCommand 0x07 2 = .issueWriteConfirmed ∧
    hostCommand 0x07 3 = .issueRead ∧ hostCommand 0x07 5 = .badKind 5 := by decide

theorem test_command_values : hostCommand 0x00 1 = .softReset ∧ hostCommand 0x00 3 = .configWrite 0x00 3 ∧
    hostCommand 0x32 1 = .start ∧ hostCommand 0x32 2 = .stop ∧ hostCommand 0x32 0 = .badCommand 0 := by decide

theorem test_register_offsets : hostCommand 0x04 7 = .raddrWrite .high 7 ∧
    hostCommand 0x09 7 = .streamData 7 ∧ hostCommand 0x18 7 = .cqPop 7 ∧ hostCommand 0x25 7 = .eqPop 7 ∧
    hostCommand 0x1A 7 = .cqAgeWrite 7 ∧ hostCommand 0x38 7 = .configWrite 0x38 7 := by decide

/-! ### Small states -/

/-- A link in UP as pin reset and training leave it. -/
def up : Link := { Link.pinReset with ctl := { LinkControl.pinReset with state := .up, trainAttempts := 2 } }

/-- A link in TRAINING. -/
def training : Link :=
  { Link.pinReset with ctl := { LinkControl.pinReset with
      state := .training, trainAttempts := 3, helloTimer := some { elapsed := 8, duration := 1000 } } }

/-- The table of sequence A: W0 takes 0x210000 to L1, station 3; the host address 0x210140 is staged. -/
def seqA : State :=
  { State.reset with
      raddrH := 0x21, raddrL := 0x0140, streamAddr := 0x210140, intEnable := 0x0100
      windows := State.reset.windows.set 0
        { enable := true, base := 0x210000, exp := 16, link := 1, station := 3, remap := 0,
          access := .readWrite } }.setLink 1 up

/-- Tag 0:1 of sequence A. -/
def tagA (state : TagState) (attempts busy : Nat) (timer : TagTimer) : Tag :=
  { state := state, gen := 1, kind := .read, link := 1, station := 3, hostAddr := 0x210140,
    remoteAddr := 0x000140, writeData := none, attempts := attempts, timeouts := 0, busy := busy,
    timer := timer, result := none }

/-- Tag 0:1 in AWAIT after its first RD. -/
def awaitA : State := seqA.setTag 0 (tagA .await 1 0 (.reply { elapsed := 71, duration := 1024 }))

/-- Tag 0:1 in DEFERRED with its retry delay due. -/
def deferredA : State := seqA.setTag 0 (tagA .deferred 1 1 (.retryDelay { elapsed := 129, duration := 128 }))

/-- The record of sequence A at its pop. -/
def recordA : CplRecord :=
  { index := 0, gen := 1, kind := .read, status := .ok, faultCode := none, link := 1, station := 3,
    hostAddr := 0x210140, remoteAddr := 0x000140, readData := some 0x8C21, attempts := 2, busy := 1,
    age := { count := 0, ticks := 0 } }

/-- Tag 0:1 in COMPLETE with its record at the head. -/
def completeA : State :=
  { seqA.setTag 0 { tagA .complete 2 1 .stopped with
      result := some { status := .ok, faultCode := none, readData := some 0x8C21 } } with cq := [recordA] }

/-! ### Sequence A: a READ deferred by RETRY -/

theorem test_issue_read_is_accepted : registerRead (after .issueRead seqA) 0x08 = 0x20A0 ∧
    registerRead (after .issueRead seqA) 0x0A = 1 ∧
    ((after .issueRead seqA).link 1).sch.tx = .sending (.rd 0 1 3 0x000140) (.queueHead true) := by decide

theorem test_end_of_read_enters_await :
    (after (.endOfRequestTransmission 1) (after .issueRead seqA)).tag 0 =
      tagA .await 1 0 (.reply { elapsed := 0, duration := 1024 }) ∧
    ((after (.endOfRequestTransmission 1) (after .issueRead seqA)).link 1).sch.txq = [] := by decide

theorem test_retry_defers : (after (.retry 1 3 0x20) awaitA).tag 0 =
    tagA .deferred 1 1 (.retryDelay { elapsed := 0, duration := 128 }) := by decide

theorem test_retry_delay_expiry_requeues :
    (after (.retryDelayExpiry 0) deferredA).tag 0 = tagA .queued 1 1 .stopped ∧
    ((after (.retryDelayExpiry 0) deferredA).link 1).sch.tx =
      .sending (.rd 0 1 3 0x000140) (.queueHead true) := by decide

theorem test_data_completes : ((after (.data 1 3 0x20 0x8C21) awaitA).tag 0).state = .complete ∧
    registerRead (after (.data 1 3 0x20 0x8C21) awaitA) 0x16 = 0x8C21 ∧
    (after (.data 1 3 0x20 0x8C21) awaitA).intN = false := by decide

theorem test_data_of_another_generation_is_stale :
    after (.data 1 3 0x40 0x8C21) awaitA =
      awaitA.setLink 1 { up with ctl := { up.ctl with stale := 1 } } := by decide

theorem test_completion_head_registers :
    [0x10, 0x11, 0x12, 0x13, 0x14, 0x15, 0x16, 0x17].map (registerRead completeA) =
      [0x0001, 0x0120, 0x0B21, 0x0140, 0x0000, 0x0140, 0x8C21, 0x0102] := by decide

theorem test_cq_pop_frees_the_tag : ((after (.cqPop 0) completeA).tag 0).state = .free ∧
    ((after (.cqPop 0) completeA).tag 0).gen = 1 ∧ registerRead (after (.cqPop 0) completeA) 0x0A = 0 ∧
    (after (.cqPop 0) completeA).intN = true := by decide

theorem test_fault_carries_its_code : registerRead (after (.fault 1 3 0x20 0xF7) awaitA) 0x11 = 0x0220 ∧
    registerRead (after (.fault 1 3 0x20 0xF7) awaitA) 0x14 = 0x0700 := by decide

theorem test_done_of_a_read_is_stale : ((after (.done 1 3 0x20) awaitA).link 1).ctl.stale = 1 ∧
    ((after (.done 1 3 0x20) awaitA).tag 0).state = .await := by decide

theorem test_reply_expiry_resends :
    let s := seqA.setTag 0 (tagA .await 1 0 (.reply { elapsed := 1025, duration := 1024 }))
    let t := after (.replyTimerExpiry 0) s
    (t.tag 0).state = .resend ∧ (t.tag 0).timeouts = 1 ∧ (t.link 1).sch.resend = [] ∧
    (t.link 1).sch.tx = .sending (.rd 0 1 3 0x000140) .resend := by decide

theorem test_reply_expiry_is_not_early :
    let s := seqA.setTag 0 (tagA .await 1 0 (.reply { elapsed := 1024, duration := 1024 }))
    after (.replyTimerExpiry 0) s = s := by decide

/-! ### The table of chapter 5 and its run of issue attempts -/

/-- W0, W1 and WS of the example, L1 in UP with 15 entries and one FREE tag, 30 with generation 1. -/
def chapter5 : State :=
  { (State.reset.setLink 1 { up with sch := { up.sch with
        outPause := true, holdTimer := some { elapsed := 0, duration := 10240 }
        txq := List.replicate 15 (.posted { station := 3, remoteAddr := 0, data := 0, hostAddr := 0x040000 }) }
      }).setLink 2 training with
    raddrH := 0x04
    raddrL := 0x1200
    windows := (State.reset.windows.set 0
      { enable := true, base := 0x040000, exp := 12, link := 1, station := 2, remap := 0x00A000,
        access := .readOnly }).set 1
      { enable := true, base := 0x040000, exp := 16, link := 1, station := 3, remap := 0,
        access := .readWrite }
    striped := { enable := true, base := 0x800000, exp := 20, shift := 8 }
    tags := (Vector.replicate 32 { Tag.pinReset with state := .complete }).set 30
      { Tag.pinReset with gen := 1 } }

/-- The example's state with another staged address. -/
def staged (high : Byte) (low : Word) (s : State) : State :=
  { s with raddrH := high, raddrL := low, streamAddr := high ++ low }

theorem test_decode_table : decode chapter5 0x040123 =
      some { window := 0, link := 1, station := 2, remoteAddr := 0x00A123, access := .readOnly } ∧
    decode chapter5 0x041123 =
      some { window := 1, link := 1, station := 3, remoteAddr := 0x001123, access := .readWrite } ∧
    decode chapter5 0x8A5E10 =
      some { window := 8, link := 2, station := 7, remoteAddr := 0x8A5E10, access := .readWrite } ∧
    decode chapter5 0x200000 = none ∧ registerRead chapter5 0x30 = 0x0103 := by decide

theorem test_issue_read_takes_the_free_tag :
    registerRead (after .issueRead chapter5) 0x08 = 0x22DE ∧
    registerRead (after .issueRead chapter5) 0x0A = 32 ∧
    ((after .issueRead chapter5).link 1).sch.txq.length = 16 := by decide

/-- The example after its first attempt. -/
def fullL1 : State := after .issueRead chapter5

theorem test_issue_write_finds_the_queue_full :
    registerRead (after .issueWrite (staged 0x04 0x1201 fullL1)) 0x08 = 0xC280 := by decide

theorem test_issue_write_is_protected :
    registerRead (after .issueWrite (staged 0x04 0x0010 fullL1)) 0x08 = 0x8080 := by decide

theorem test_bad_kind : registerRead (after (.badKind 5) fullL1) 0x08 = 0x5E00 := by decide

theorem test_issue_read_link_not_up :
    registerRead (after .issueRead (staged 0x8A 0x5E10 fullL1)) 0x08 = 0xB100 := by decide

theorem test_issue_write_confirmed_no_tag :
    let s := { chapter5 with tags := Vector.replicate 32 { Tag.pinReset with state := .complete } }
    registerRead (after .issueWriteConfirmed (staged 0x04 0x1202 s)) 0x08 = 0xE280 := by decide

theorem test_issue_write_confirmed_holds_its_data :
    let t := after .issueWriteConfirmed { chapter5 with wdata := 0xBEEF }
    (t.tag 30).writeData = some 0xBEEF ∧ (t.tag 30).kind = .writeConfirmed ∧ (t.tag 30).gen = 2 := by decide

theorem test_stream_refused_sets_the_bit :
    let s := staged 0x04 0x1201 fullL1
    (after (.streamData 7) s).sticky = 0x4000 ∧ (after (.streamData 7) s).streamAddr = 0x041201 := by decide

theorem test_stream_moves_on :
    let t := after (.streamData 0x0A00) (staged 0x21 0x0200 seqA)
    registerRead t 0x08 = 0x2080 ∧ t.streamAddr = 0x210201 ∧
    (t.link 1).sch.tx = .sending (.wr 0 3 0x000200 0x0A00) (.queueHead true) := by decide

theorem test_raddr_write_loads_the_stream_address :
    (after (.raddrWrite .high 0xFF21) seqA).streamAddr = 0x210140 ∧
    (after (.raddrWrite .low 0x0200) seqA).streamAddr = 0x210200 := by decide

theorem test_stripe_invalid : registerRead (after (.configWrite 0x2B 0x8E0C) { chapter5 with winSelect := 8 })
    0x30 = 0x8103 := by decide

/-! ### Sequence B and the fast pass of chapter 3 -/

/-- A posted write to a station. -/
def write (station : StationId) (host : Addr) : Posted :=
  { station := station, remoteAddr := 0x000010, data := 0x0101, hostAddr := host }

/-- L0 of chapter 3's example: 17 to 20 in the replay list, next_seq 21. -/
def lost : Link :=
  { up with
    pst := { PostedState.clear with
      nextSeq := 21
      timer := some { elapsed := 5, duration := 1024 }
      replay := [{ seq := 17, write := write 2 0x100017 }, { seq := 18, write := write 2 0x100018 },
        { seq := 19, write := write 4 0x100019 }, { seq := 20, write := write 2 0x100020 }] } }

theorem test_write_end_joins_the_list :
    let s := State.reset.setLink 0 { up with sch := { up.sch with
      txq := [.posted (write 2 0x100000)], tx := .sending (.wr 0 2 0x000010 0x0101) (.queueHead true) } }
    let k := (after (.endOfFirstWrTransmission 0) s).link 0
    k.pst.replay = [{ seq := 0, write := write 2 0x100000 }] ∧ k.pst.nextSeq = 1 ∧
    k.pst.timer = some { elapsed := 0, duration := 1024 } ∧ k.sch.txq = [] := by decide

theorem test_ackp_progress :
    let k := (after (.ackp 0 1 0xD2) (State.reset.setLink 0 lost)).link 0
    k.pst.replay.map (·.seq) = [18, 19, 20] ∧ k.pst.timer = some { elapsed := 0, duration := 1024 } := by
  decide

theorem test_ackp_second_duplicate_starts_a_pass :
    let s := State.reset.setLink 0 { lost with pst := { lost.pst with duplicates := 1 } }
    let k := (after (.ackp 0 1 17) s).link 0
    k.pst.pass = .active (some 18) ∧ k.pst.attempts = 1 ∧ k.pst.duplicates = 0 ∧ k.pst.timer = none ∧
    k.sch.tx = .sending (.wr 17 2 0x000010 0x0101) .pass := by decide

theorem test_replay_expiry_starts_a_pass :
    let s := State.reset.setLink 0 { lost with
      pst := { lost.pst with timer := some { elapsed := 1025, duration := 1024 } } }
    let k := (after (.replayTimerExpiry 0) s).link 0
    k.pst.attempts = 1 ∧ k.sch.tx = .sending (.wr 17 2 0x000010 0x0101) .pass := by decide

theorem test_pass_end_starts_the_timer :
    let s := State.reset.setLink 0 { lost with
      sch := { lost.sch with tx := .sending (.wr 20 2 0x000010 0x0101) .pass }
      pst := { lost.pst with timer := none, pass := .active none } }
    let k := (after (.endOfPassFrame 0) s).link 0
    k.pst.pass = .none ∧ k.pst.timer = some { elapsed := 0, duration := 1024 } ∧ k.sch.tx = .idle := by decide

/-! ### Sequence C: a link failure with tags in four states -/

/-- A tag of L2 in sequence C. -/
def tagC (state : TagState) (gen : Gen) (kind : ReqKind) (attempts busy : Nat) (timer : TagTimer) : Tag :=
  { Tag.pinReset with
      state := state, gen := gen, kind := kind, link := 2, station := 1, attempts := attempts, busy := busy
      timer := timer }

/-- L2 before the eighth malformed frame. -/
def seqC : State :=
  let link : Link := { up with
    sch := { up.sch with
      tx := .sending (.wr 14 4 0x000010 0x0101) (.queueHead true)
      txq := [.posted (write 4 0x300100), .ref 3, .posted (write 0 0x300200)], resend := [14] }
    pst := { PostedState.clear with
      nextSeq := 14, timer := some { elapsed := 0, duration := 1024 }
      replay := [{ seq := 12, write := write 4 0x3000FE }, { seq := 13, write := write 4 0x3000FF }] }
    rcv := { Receiver.clear with consecutiveBad := 7, badFrames := 37 } }
  ((((({ State.reset with
    linkSelect := 2, intEnable := 0x0104
    cq := [{ recordA with index := 20, link := 2 }] }.setLink 2 link).setTag 3
    (tagC .queued 1 .read 0 0 .stopped)).setTag 8
    (tagC .await 2 .read 1 0 (.reply { elapsed := 0, duration := 1024 }))).setTag 11
    (tagC .deferred 0 .writeConfirmed 1 1 (.retryDelay { elapsed := 0, duration := 128 }))).setTag 14
    { tagC .resend 3 .read 1 0 .stopped with timeouts := 1 }).setTag 20 (tagC .complete 1 .read 2 1 .stopped)

theorem test_eighth_bad_frame_fails_the_link :
    let t := after (.malformedFrame 2) seqC
    t.cq.map (fun r => (r.index.val, r.attempts, r.busy)) =
      [(20, 2, 1), (3, 0, 0), (8, 1, 0), (11, 1, 1), (14, 1, 0)] ∧
    registerRead t 0x0A = 5 ∧ registerRead t 0x01 = 0x0104 := by decide

theorem test_failed_link_registers :
    [0x33, 0x34, 0x3B, 0x3C, 0x3D, 0x3E, 0x3F].map (registerRead (after (.malformedFrame 2) seqC)) =
      [0, 0x028F, 0, 0x0400, 0x0026, 0x0030, 0x00FE] := by decide

/-! ### Sequence D, bring-up, and the discards of a STOP -/

/-- L3 of sequence D at step 9: seven records stored, PAUSE sent. -/
def seqD : State :=
  { State.reset.setLink 3 { up with
      sch := { up.sch with lastPause := .pause }, evs := { EventSide.clear with count := 7, paused := true } }
    with
    highThreshold := 6, lowThreshold := 2, repeatK := 2
    eq := List.replicate 7 { link := 3, station := 4, code := 1, payload := 2, lostBefore := 0, time := 0,
                             age := { count := 0, ticks := 0 } } }

theorem test_events_on_a_paused_link_repeat_the_pause :
    let t := after (.evt 3 4 1 2) seqD
    let u := after (.evt 3 4 1 2) t
    (t.link 3).evs = { count := 8, lost := 0, paused := true, pauseRepeat := 1 } ∧
    (t.link 3).sch.tx = .idle ∧
    (u.link 3).evs = { count := 9, lost := 0, paused := true, pauseRepeat := 0 } ∧
    (u.link 3).sch.tx = .sending .pause .control := by decide

theorem test_eq_pop_releases :
    let s := { seqD with lowThreshold := 6 }
    ((after (.eqPop 0) s).link 3).evs.paused = false ∧
    ((after (.eqPop 0) s).link 3).sch.tx = .sending .resume .control ∧
    registerRead (after (.eqPop 0) s) 0x20 = 6 := by decide

theorem test_start_sends_a_hello :
    let t := after .start { State.reset with linkSelect := 3 }
    registerRead t 0x33 = 0x0311 ∧ registerRead t 0x01 = 0x0008 ∧
    (t.link 3).sch.tx = .sending .hello .control ∧ registerRead t 0x34 = 0x0101 := by decide

theorem test_hello_brings_the_link_up :
    let s := State.reset.setLink 3 { training with
      sch := { training.sch with tx := .sending .hello .control } }
    let t := after (.hello 3 0 1) s
    (t.link 3).ctl.state = .up ∧ (t.link 3).sch.helloAckPending = true ∧
    ((after (.endOfControlFrame 3) t).link 3).sch.tx = .sending .helloAck .control := by decide

theorem test_hello_ack_in_up_is_stale :
    registerRead { after (.helloAck 3 0 1) (State.reset.setLink 3 up) with linkSelect := 3 } 0x3C = 1 := by
  decide

theorem test_sixteenth_hello_expiry_fails :
    let s := { State.reset with linkSelect := 3 }.setLink 3 { training with
      ctl := { training.ctl with
        trainAttempts := 16, helloTimer := some { elapsed := 1001, duration := 1000 } } }
    registerRead (after (.helloIntervalExpiry 3) s) 0x34 = 0x1007 := by decide

theorem test_stop_counts_the_discards :
    let link : Link := { up with
      sch := { up.sch with
        tx := .sending (.wr 42 2 0x000010 0x0101) (.queueHead true)
        txq := [.posted (write 2 0x100022), .ref 7, .posted (write 2 0x100023)] }
      pst := { PostedState.clear with
        nextSeq := 42
        replay := [{ seq := 40, write := write 2 0x100020 }, { seq := 41, write := write 2 0x100021 }] } }
    let tag : Tag := { Tag.pinReset with state := .queued }
    let s := ((State.reset.setLink 0 link).setTag 7 tag).setTag 3 { tag with state := .await, attempts := 1 }
    let t := after .stop s
    [0x33, 0x3C, 0x3E, 0x3F].map (registerRead t) = [0x0021, 0x0400, 0x0010, 0x0020] ∧
    t.cq.map (fun r => (r.index.val, r.status.code, r.attempts)) = [(3, 5, 1), (7, 5, 0)] := by decide

theorem test_bad_command : registerRead (after (.badCommand 7) { State.reset with linkSelect := 2 }) 0x33 =
    0x0203 := by decide

/-! ### Pauses -/

theorem test_pause_holds_and_resume_releases :
    let t := after (.pause 1 0 0) (State.reset.setLink 1 { up with cfg := { up.cfg with hold := 2 } })
    (t.link 1).sch.outPause = true ∧ (t.link 1).sch.holdTimer = some { elapsed := 0, duration := 512 } ∧
    (after (.resume 1 0 0) t).link 1 = { up with cfg := { up.cfg with hold := 2 } } := by decide

theorem test_pause_hold_expiry :
    let s := State.reset.setLink 1 { up with sch := { up.sch with
      outPause := true, holdTimer := some { elapsed := 10241, duration := 10240 } } }
    after (.pauseHoldExpiry 1) s = State.reset.setLink 1 up := by decide

/-! ### Interrupt, configuration, ticks, resets -/

theorem test_interrupt_example :
    let s := { completeA with intEnable := 0x2100 }
    let t := after (.configWrite 0x31 6) s
    registerRead t 0x01 = 0x2100 ∧ registerRead (after (.intStatusWrite 0x0100) t) 0x01 = 0x2100 ∧
    registerRead (after (.intStatusWrite 0x2000) t) 0x01 = 0x0100 := by decide

theorem test_int_enable_write :
    let s := { State.reset with sticky := 0x0004 }
    (after (.intEnableWrite 0x210F) s).intN = false ∧ (after (.intEnableWrite 0x0400) s).intEnable = 0 ∧
    (after (.intEnableWrite 0x0400) s).sticky = 0x2004 := by decide

theorem test_limits_at_their_ends :
    (after (.cqTriggerWrite 32) State.reset).cqTrigger = 32 ∧
    (after (.cqTriggerWrite 33) State.reset).sticky = 0x2000 ∧
    (after (.cqAgeWrite 255) State.reset).cqAge = 255 ∧ (after (.cqAgeWrite 256) State.reset).cqAge = 0 ∧
    (after (.eqTriggerWrite 64) State.reset).eqTrigger = 64 ∧
    (after (.eqTriggerWrite 65) State.reset).eqTrigger = 1 ∧
    (after (.eqAgeWrite 255) State.reset).eqAge = 255 ∧ (after (.eqAgeWrite 256) State.reset).eqAge = 0 := by
  decide

theorem test_tick : (after .tick { State.reset with usCount := 0xFFFF }).usCount = 0 ∧
    (after .tick awaitA).tag 0 = tagA .await 1 0 (.reply { elapsed := 72, duration := 1024 }) ∧
    (after .tick completeA).cq = [{ recordA with age := { count := 0, ticks := 1 } }] := by decide

theorem test_age_counts :
    let aged (n : Nat) : State := { completeA with
      cqAge := 10, cqTrigger := 4, cq := [{ recordA with age := { count := 9, ticks := n } }] }
    cqCondition (after .cqAgeExpiry (aged 161)) = true ∧ after .cqAgeExpiry (aged 160) = aged 160 ∧
    after (.ageCountIncrement .completion 0) (aged 161) = after .cqAgeExpiry (aged 161) := by decide

theorem test_event_age_expiry :
    let s := { seqD with
      eqAge := 1, eqTrigger := 64
      eq := [{ link := 3, station := 4, code := 1, payload := 2, lostBefore := 0, time := 0,
               age := { count := 0, ticks := 17 } }] }
    eqCondition s = false ∧ eqCondition (after .eqAgeExpiry s) = true := by decide

theorem test_soft_reset_keeps_the_configuration :
    let t := after .softReset completeA
    registerRead t 0x08 = 0x1E00 ∧ registerRead t 0x10 = 0 ∧ (t.tag 0).gen = 1 ∧ (t.tag 0).state = .free ∧
    t.windows = completeA.windows ∧ (t.link 1).ctl.state = .off := by decide

theorem test_pin_reset_and_release :
    after .resetRelease (after .pinReset completeA) = State.reset ∧
    (after .pinReset completeA).intN = true ∧ after .tick (after .pinReset completeA) =
      after .pinReset completeA := by decide

/-! ### Host accesses (R174) -/

/-- The state that an edge of a strobe leaves. -/
def edged (strobe : Strobe) (high : Bool) (offset : Offset) (data : Word) (s : State) : State :=
  match busEdge strobe high offset data s with
  | .next t => t
  | .fault f => nomatch f
  | .refused _ => s

theorem test_read_word_is_held :
    let reading := edged .rd false 0x10 0 (edged .cs false 0x10 0 completeA)
    reading.bus.driven = some 1 ∧ registerRead (after (.cqPop 0) reading) 0x10 = 0 ∧
    (after (.cqPop 0) reading).bus.driven = some 1 ∧
    (edged .rd true 0x10 0 (after (.cqPop 0) reading)).bus.driven = none ∧
    (after .pinReset reading).bus.driven = none := by decide

theorem test_write_event_is_at_the_rise :
    let low := edged .wr false 0x19 0 (edged .cs false 0x19 0 State.reset)
    low.cqTrigger = 1 ∧ (edged .cs true 0x19 9 low).cqTrigger = 9 ∧
    (edged .wr true 0x19 5 (edged .cs true 0x19 9 low)).cqTrigger = 9 ∧
    (edged .wr true 0x19 9 (edged .rd false 0x19 9 low)).cqTrigger = 1 := by decide

/-! ### The line (chapter 7) -/

theorem test_hello_bytes : lineBytes .hello = [0xA5, 0x10, 0x01, 0x0E, 0x5D, 0xA5] := by decide

theorem test_stuffed_write : (lineBytes (.wr 5 2 0x00A510 0x5A01)).take 10 =
    [0xA5, 0x32, 0x05, 0x00, 0x5A, 0x85, 0x10, 0x5A, 0x7A, 0x01] ∧
    lineClocks 4 (lineBytes .hello) = 960 := by decide

theorem test_bytes_of_a_hello :
    let byte (b : Byte) (s : State) : State := after (.byteReceived 3 b) s
    ((byte 0xA5 (byte 0x5D (byte 0x0E (byte 0x01 (byte 0x10 (byte 0xA5
      (State.reset.setLink 3 training))))))).link 3).ctl.state = .up := by decide

theorem test_bad_stretch :
    let r : Receiver := { Receiver.clear with badFrames := 12, consecutiveBad := 1 }
    ([0x3C, 0xA5, 0xA5, 0x93, 0x5A, 0x11, 0x22, 0x33] : List Byte).foldl Receiver.take r =
      { r with framing := .inFrame, byteCount := 3, badMark := true, kept := [0x93, 0x22, 0x33] } ∧
    (([0xA5, 0x73, 0x4C, 0x5A, 0xA5] : List Byte).foldl Receiver.take r) = r := by decide

theorem test_aborted_frame_is_not_counted :
    let k : Link := { up with
      rcv := { Receiver.clear with framing := .escaped, byteCount := 2, kept := [0x73, 0x4C] } }
    after (.abortedFrame 2) (State.reset.setLink 2 k) = State.reset.setLink 2 up ∧
    after (.byteReceived 2 0xA5) (State.reset.setLink 2 k) = State.reset.setLink 2 up := by decide

theorem test_abort_sequence_end_picks :
    let s := State.reset.setLink 1 { up with sch := { up.sch with
      tx := .aborting [0x5A, 0xA5], txq := [.posted (write 2 0x100000)] } }
    ((after (.abortSequenceEnd 1) s).link 1).sch.tx =
      .sending (.wr 0 2 0x000010 0x0101) (.queueHead true) := by decide

/-! ### Witnesses: states and operands that meet the hypotheses of the statements -/

/-- A running part: L1 sends the RD of tag 0:1, L0 waits for an acknowledgement, tag 5 is COMPLETE, an event of L1
is queued, and the end of the RD is the next command. -/
def loaded : State :=
  let s := after .issueRead seqA
  let tag : Tag := { tagA .complete 2 1 .stopped with
    result := some { status := .ok, faultCode := none, readData := some 0x8C21 } }
  { ((s.setTag 5 tag).setLink 0 { up with pst := { PostedState.clear with
        nextSeq := 7, timer := some { elapsed := 3, duration := 1024 }
        replay := [{ seq := 6, write := write 2 0x100000 }] } }).setLink 1
      { s.link 1 with evs := { EventSide.clear with count := 1 } } with
    cq := [{ recordA with index := 5 }]
    eq := [{ link := 1, station := 4, code := 1, payload := 2, lostBefore := 0, time := 0,
             age := { count := 0, ticks := 0 } }]
    pending := [.endOfRequestTransmission 1] }

theorem loaded_records : RecordsAgree loaded := by
  refine ⟨fun r hr => ?_, by decide⟩
  have h : r = { recordA with index := 5 } := by simpa [loaded] using hr
  subst h
  exact ⟨by decide, _, rfl, rfl⟩

theorem loaded_references : ReferencesAgree loaded := by
  unfold ReferencesAgree; decide

theorem loaded_replay : ReplayNumbered loaded := by
  intro l
  match l with
  | 0 =>
    refine ⟨by decide, ⟨by decide, trivial⟩, fun _ _ _ _ _ h => ?_, fun _ h => ?_, fun h => ?_⟩ <;> cases h
  | 1 =>
    refine ⟨by decide, trivial, fun _ _ _ _ _ h => ?_, fun _ h => ?_, fun h => ?_⟩ <;> cases h
  | 2 =>
    refine ⟨by decide, trivial, fun _ _ _ _ _ h => ?_, fun _ h => ?_, fun h => ?_⟩ <;> cases h
  | 3 =>
    refine ⟨by decide, trivial, fun _ _ _ _ _ h => ?_, fun _ h => ?_, fun h => ?_⟩ <;> cases h

theorem loaded_order : OrderKept loaded := by
  intro l src i g st a h e he
  match l with
  | 0 => obtain h | ⟨d, h⟩ := h <;> cases h
  | 1 => cases he
  | 2 => cases he
  | 3 => cases he

theorem loaded_sound : Sound loaded where
  config := by decide
  counts := by decide
  timers := by decide
  events := by decide
  records := loaded_records
  references := loaded_references
  replay := loaded_replay
  order := loaded_order
  resume := by decide
  quiet := by decide
  idle := by unfold IdleHasNothing; decide
  bus := by decide

/-- The premises of every invariant statement (StepKeepsTheConfigurationLegal, StepKeepsTheEventCounts,
StepKeepsTheStationOrder, StepKeepsResumeAfterPause, and those from Sound: StepKeepsTheRecords,
StepKeepsTheReferences, StepKeepsTheReplayNumbers, StepKeepsQuietLinks, StepKeepsIdleTransmittersIdle,
StepKeepsSound) hold of a running part, and its step answers a next state. The edge that selects the part and the
one that begins a read of CQ_COUNT answer next states too. -/
theorem witness_StepKeepsSound : Sound loaded ∧ ConfigLegal loaded ∧ EventCountsAgree loaded ∧
    OrderKept loaded ∧ ResumeFollowsPause loaded ∧
    (∃ t, step loaded = .next t ∧ (t.tag 0).state = .await ∧ (t.link 1).sch.tx = .idle) ∧
    ∃ t u, busEdge .cs false 0x10 0 loaded = .next t ∧ t.bus.driven = none ∧
      busEdge .rd false 0x10 0 t = .next u ∧ u.bus.driven = some 1 :=
  ⟨loaded_sound, loaded_sound.config, loaded_sound.events, loaded_order, loaded_sound.resume,
    ⟨_, rfl, by decide, by decide⟩, _, _, rfl, rfl, rfl, by decide⟩

theorem witness_StepRunsTheFrontCommand : State.reset.pending = [] := rfl

theorem witness_CommandsThatDoNotOccurChangeNothing : occurs .start (after .pinReset State.reset) = false ∧
    occurs .tick (after .pinReset State.reset) = false ∧ occurs (.replyTimerExpiry 0) awaitA = false ∧
    occurs (.retryDelayExpiry 0) awaitA = false ∧ occurs (.ageCountIncrement .completion 0) completeA = false ∧
    occurs (.endOfControlFrame 1) seqA = false ∧ occurs .cqAgeExpiry completeA = false := by decide

theorem witness_HostAccessesAreTakenAtTheirEdges :
    let selected := State.reset.withStrobe .cs false
    let reading := selected.withStrobe .rd false
    let writing := selected.withStrobe .wr false
    State.reset.inReset = false ∧ (0 : Word) ≠ 1 ∧ (0 : Word) ≠ 2 ∧ (0 : Word) ≠ 3 ∧ (2 : Word) ≠ 1 ∧
    (0x06 : Offset) ∉ ([0x00, 0x01, 0x02, 0x04, 0x05, 0x07, 0x09, 0x18, 0x19, 0x1A, 0x25, 0x26, 0x27, 0x32] :
      List Offset) ∧ selected.cycle ≠ .read ∧
    reading.cycle = .read ∧ (reading.withStrobe .cs false).cycle = .read ∧
    (reading.withStrobe .wr false).cycle = .noEvent ∧
    ((reading.withStrobe .wr false).withStrobe .wr true).cycle = .read ∧ writing.cycle = .write ∧
    (writing.withStrobe .wr true).cycle ≠ .write ∧ (writing.withStrobe .cs true).cycle ≠ .write ∧
    (writing.withStrobe .rd false).cycle = .noEvent ∧ (after .pinReset reading).cycle = .noEvent := by decide

theorem witness_SoftResetClearsTheTraffic : loaded.inReset = false ∧
    (loaded.link 1).sch.tx = .sending (.rd 0 1 3 0x000140) (.queueHead true) := by decide

theorem witness_StationFramesAreReceived : Receiver.clear.framing = .hunting := rfl

theorem witness_BridgeFramesAreSentAndAborted : Receiver.clear.framing = .hunting ∧
    (lineBytes .hello).length = 6 ∧ 5 + 1 = (lineBytes .hello).length ∧
    0 + 1 < (lineBytes .hello).length ∧ 4 + 1 < (lineBytes .hello).length ∧
    (lineBytes (.wr 5 2 0x00A510 0x5A01))[4]? = some 0x5A ∧
    4 + 1 < (lineBytes (.wr 5 2 0x00A510 0x5A01)).length := by decide

/-- A receiver that has kept some bytes of a frame. -/
def keeping (kept : List Byte) (n : Nat) (bad : Bool) : Receiver :=
  { Receiver.clear with framing := .inFrame, kept := kept, byteCount := n, badMark := bad }

theorem witness_MalformedFramesAreRefused :
    (keeping [0x93, 0x22, 0x33] 3 true).kept.length = min 9 3 ∧
    rxLength ((0x10 : Byte).toNat / 16) ≠ some 5 ∧
    (keeping (List.replicate 9 0x10) 12 false).kept.length = min 9 12 ∧
    (0xF0 : Byte).toNat / 16 ∈ [0, 3, 4, 5, 14, 15] ∧ (0x30 : Byte).toNat / 16 ∈ [0, 3, 4, 5, 14, 15] ∧
    (0x93 : Byte).toNat / 16 ∈ [1, 2, 6, 7, 9, 12, 13] ∧ (keeping [0x93, 0x22, 0x33] 3 true).byteCount ≠ 4 ∧
    (0xA0 : Byte).toNat / 16 = 10 ∧ (keeping [0xA0, 1, 2, 3] 4 false).byteCount ≠ 5 ∧
    (0x80 : Byte).toNat / 16 ∈ [8, 11] ∧ (0xB7 : Byte).toNat / 16 ∈ [8, 11] ∧
    (keeping [0xB7, 1, 2, 3, 4, 5, 6] 7 false).byteCount ≠ 6 ∧ (0x18 : Byte).getLsbD 3 = true ∧
    (keeping [0x10, 0x01, 0x0E, 0x5C] 4 false).kept = [0x10, 0x01] ++ [0x0E, 0x5C] ∧
    [BitVec.ofNat 8 ((crc [0x10, 0x01]).toNat / 256), BitVec.ofNat 8 (crc [0x10, 0x01]).toNat] ≠
      ([0x0E, 0x5C] : List Byte) := by decide

/-- A directed window of a size. -/
def window (exp : Nat) : DirWindow :=
  { enable := true, base := 0x210000, exp := exp, link := 1, station := 3, remap := 0x654321,
    access := .readWrite }

theorem witness_WindowsMatchAndTranslate :
    let s : State := { State.reset with windows := (State.reset.windows.set 0 (window 8)).set 7 (window 24) }
    s.windows[(0 : Fin 8)].exp = 8 ∧ s.windows[(7 : Fin 8)].exp = 24 ∧
    s.windows[(0 : Fin 8)].hits 0x2100FF = true ∧ s.windows[(0 : Fin 8)].hits 0x210100 = false ∧
    s.windows[(7 : Fin 8)].hits 0x000000 = true := by decide

theorem witness_DecodeTakesTheLowestWindow :
    chapter5.windows[(1 : Fin 8)].hits 0x041123 = true ∧
    (∀ j : Fin 8, j < 1 → chapter5.windows[j].hits 0x041123 = false) ∧
    (∀ k : Fin 8, chapter5.windows[k].hits 0x8A5E10 = false) ∧ chapter5.striped.hits 0x8A5E10 = true ∧
    (∀ k : Fin 8, chapter5.windows[k].hits 0x200000 = false) ∧
    chapter5.striped.hits 0x200000 = false := by decide

/-- The target of sequence A. -/
def targetA : Target :=
  { window := 0, link := 1, station := 3, remoteAddr := 0x000140, access := .readWrite }

theorem witness_PostedIssueIsQueued : seqA.inReset = false ∧ targetA.access = .readWrite ∧
    (seqA.link 1).ctl.state = .up ∧ (seqA.link 1).sch.ready.length < 16 - (seqA.link 1).sch.txq.length ∧
    decode seqA (seqA.raddrH ++ seqA.raddrL) = some targetA ∧
    decode seqA seqA.streamAddr = some targetA := by decide

theorem witness_TaggedIssueTakesTheLowestTag : chapter5.inReset = false ∧
    (chapter5.link 1).ctl.state = .up ∧ (chapter5.link 1).sch.txq.length < 16 ∧
    (chapter5.link 1).QueueFits ∧
    decode chapter5 (chapter5.raddrH ++ chapter5.raddrL) =
      some { window := 1, link := 1, station := 3, remoteAddr := 0x001200, access := .readWrite } ∧
    (chapter5.tag 30).state = .free ∧ ∀ j : TagId, j < 30 → (chapter5.tag j).state ≠ .free := by decide

theorem witness_IssueIsRefusedInOrder :
    let noTag : State := { chapter5 with
      tags := Vector.replicate 32 { Tag.pinReset with state := .complete } }
    let at_ (a : Addr) (s : State) : State :=
      { s with raddrH := a.extractLsb' 16 8, raddrL := a.extractLsb' 0 16, streamAddr := a }
    let target (s : State) : Option Target := decode s (s.raddrH ++ s.raddrL)
    fullL1.inReset = false ∧ target (at_ 0x200000 fullL1) = none ∧
    (target (at_ 0x040010 fullL1)).map (·.access) = some .readOnly ∧
    (target (at_ 0x8A5E10 fullL1)).map (fun t => (t.access, (fullL1.link t.link).ctl.state)) =
      some (.readWrite, .training) ∧
    (target (at_ 0x041201 fullL1)).map (fun t => (t.access, (fullL1.link t.link).ctl.state,
      16 - (fullL1.link t.link).sch.txq.length, (fullL1.link t.link).sch.ready.length)) =
      some (.readWrite, .up, 0, 0) ∧
    (target (at_ 0x041202 noTag)).map (fun t => (t.access, (noTag.link t.link).ctl.state,
      16 - (noTag.link t.link).sch.txq.length, (noTag.link t.link).sch.ready.length)) =
      some (.readWrite, .up, 1, 0) ∧
    (∀ i : TagId, (noTag.tag i).state ≠ .free) ∧
    decode (at_ 0x041201 fullL1) (at_ 0x041201 fullL1).streamAddr = target (at_ 0x041201 fullL1) ∧
    (5 : Word) ≠ 1 ∧ (5 : Word) ≠ 2 ∧ (5 : Word) ≠ 3 := by decide

theorem witness_CqPopFreesTheTag : seqA.cq = [] ∧ loaded.cq = { recordA with index := 5 } :: [] ∧
    RecordsAgree loaded ∧ seqA.inReset = false :=
  ⟨rfl, rfl, loaded_records, rfl⟩

theorem witness_EqPopReleasesTheLink : seqA.eq = [] ∧ seqD.inReset = false ∧ seqD.eq.length = 7 ∧
    (seqD.link 3).ctl.state = .up ∧ (seqD.link 3).evs.paused = true ∧
    ¬(seqD.link 3).evs.count - 1 ≤ seqD.lowThreshold ∧
    (seqD.link 3).evs.count - 1 ≤ { seqD with lowThreshold := 6 }.lowThreshold := by decide

theorem witness_HeadsReportsAndStatusRead : seqA.cq = [] ∧ completeA.cq = recordA :: [] ∧
    recordA.attempts ≤ 255 ∧ recordA.busy ≤ 255 ∧
    { completeA with cq := [{ recordA with attempts := 255, busy := 255 }] }.cq =
      [{ recordA with attempts := 255, busy := 255 }] ∧
    seqA.eq = [] ∧ loaded.eq.length = 1 ∧ (∀ r ∈ loaded.eq, r.lostBefore ≤ 255) ∧
    (seqC.link seqC.linkSelect).ctl.trainAttempts ≤ 31 ∧ (seqC.link seqC.linkSelect).evs.count ≤ 64 ∧
    (seqC.link seqC.linkSelect).pst.replay.length ≤ 8 ∧ (seqC.link seqC.linkSelect).sch.txq.length ≤ 16 ∧
    (seqC.link seqC.linkSelect).ctl.discards ≤ 255 ∧ (seqC.link seqC.linkSelect).ctl.stale ≤ 255 ∧
    (seqC.link seqC.linkSelect).rcv.badFrames ≤ 65535 := by decide

theorem witness_ConfigurationReads : chapter5.winSelect.val = (0 : Fin 8).val ∧
    { chapter5 with winSelect := 8 }.winSelect = 8 ∧ chapter5.windows[(0 : Fin 8)].exp ≤ 24 ∧
    { chapter5 with winSelect := 7 }.winSelect.val = (7 : Fin 8).val ∧ chapter5.striped.exp ≤ 24 ∧
    chapter5.striped.shift ≤ 19 ∧ chapter5.highThreshold ≤ 63 ∧ chapter5.lowThreshold ≤ 63 ∧
    (chapter5.link chapter5.linkSelect).cfg.busyLimit ≤ 255 ∧
    (chapter5.link chapter5.linkSelect).cfg.replayLimit ≤ 15 ∧
    (chapter5.link chapter5.linkSelect).cfg.retryLimit ≤ 7 := by decide

/-- The frame of the queue head is on the line of L1 in `loaded` and of a posted write on the line of L2 in `seqC`. -/
theorem witness_CompletionAppendsOneRecord :
    (loaded.link (loaded.tag 0).link).sch.tx = .sending (.rd 0 1 3 0x000140) (.queueHead true) ∧
    (loaded.link (loaded.tag 0).link).sch.txq.head? = some (.ref 0) ∧
    (seqC.link (seqC.tag 3).link).sch.txq.head? ≠ some (.ref 3) ∧
    (∀ f, (seqA.link (seqA.tag 0).link).sch.tx ≠ .sending f (.queueHead true)) := by
  exact ⟨by decide, by decide, by decide, fun f h => nomatch h⟩

theorem test_completion_marks_the_frame_on_the_line :
    ((completeTag loaded 0 (plainResult .ok)).link 1).sch.tx =
      .sending (.rd 0 1 3 0x000140) (.queueHead false) := by decide

theorem witness_PauseAsksFollowTheTables :
    let k (pending last : PauseSlot) : Link :=
      { up with sch := { up.sch with pendingPause := pending, lastPause := last } }
    (k .pause .resume).sch.pendingPause = .pause ∧ (k .pause .resume).sch.lastPause ≠ .pause ∧
    (k .pause .pause).sch.lastPause = .pause ∧ (k .none .pause).sch.pendingPause = .none ∧
    (k .none .resume).sch.lastPause ≠ .pause ∧ (k .resume .pause).sch.pendingPause = .resume := by decide

theorem witness_SharedRegistersTakeValuesInRange : State.reset.inReset = false ∧
    (0x3F3E : Word).toNat = 256 * 63 + 62 ∧ (0x0100 : Word).toNat = 256 * 1 + 0 ∧
    (∀ high low : Nat, 1 ≤ high → high ≤ 63 → low < high → (0x0101 : Word).toNat ≠ 256 * high + low) ∧
    (∀ high low : Nat, 1 ≤ high → high ≤ 63 → low < high → (0x4000 : Word).toNat ≠ 256 * high + low) ∧
    (8 : Word).toNat ∈ [1, 2, 4, 8] ∧ (3 : Word).toNat ∉ [1, 2, 4, 8] ∧
    (8 : Word).toNat = (8 : Fin 9).val ∧ 9 ≤ (9 : Word).toNat ∧ (3 : Word).toNat = (3 : LinkId).val ∧
    4 ≤ (4 : Word).toNat := by
  have h257 : (0x0101 : Word).toNat = 0x0101 := rfl
  have h64 : (0x4000 : Word).toNat = 0x4000 := rfl
  refine ⟨rfl, rfl, rfl, ?_, ?_, by decide⟩ <;> intro high low h1 h2 h3 <;> omega

theorem witness_WindowWritesReplaceTheirFields : State.reset.inReset = false ∧
    State.reset.winSelect.val = (0 : Fin 8).val ∧
    { State.reset with winSelect := 7 }.winSelect.val = (7 : Fin 8).val ∧
    { State.reset with winSelect := 8 }.winSelect = 8 ∧
    (0xD837 : Word).toNat =
      32768 * true.toNat + 16384 * true.toNat + 256 * 24 + 16 * (3 : LinkId).val + (7 : StationId).val ∧
    (0x0800 : Word).toNat =
      32768 * false.toNat + 16384 * false.toNat + 256 * 8 + 16 * (0 : LinkId).val + (0 : StationId).val ∧
    (0x9813 : Word).toNat = 32768 * true.toNat + 256 * 24 + 19 ∧
    (0x0E08 : Word).toNat = 32768 * false.toNat + 256 * 14 + 8 := by decide

theorem witness_WindowWritesOutOfRange :
    (∀ (en ro : Bool) (e : Nat) (link : LinkId) (station : StationId), 8 ≤ e → e ≤ 24 →
      (0x0737 : Word).toNat ≠
        32768 * en.toNat + 16384 * ro.toNat + 256 * e + 16 * link.val + station.val) ∧
    ∀ (en : Bool) (e shift : Nat), 14 ≤ e → e ≤ 24 → 8 ≤ shift → shift ≤ 19 →
      (0x0E14 : Word).toNat ≠ 32768 * en.toNat + 256 * e + shift := by
  constructor
  · intro en ro e link station h1 h2
    have := link.isLt
    have := station.isLt
    cases en <;> cases ro <;> simp <;> omega
  · intro en e shift h1 h2 h3 h4
    cases en <;> simp <;> omega

theorem witness_LinkConfigurationWrites : State.reset.inReset = false ∧ 1 ≤ (1 : Word).toNat ∧
    (255 : Word).toNat ≤ 255 ∧ (0 : Word).toNat = 0 ∧ 255 < (256 : Word).toNat ∧
    (0x1043 : Word).toNat = 256 * 16 + 16 * 4 + 3 ∧ (0xFFF7 : Word).toNat = 256 * 255 + 16 * 15 + 7 ∧
    (∀ busy replay retry : Nat, busy ≤ 255 → 1 ≤ replay → replay ≤ 15 → retry ≤ 7 →
      (0x1003 : Word).toNat ≠ 256 * busy + 16 * replay + retry) ∧
    ∀ busy replay retry : Nat, busy ≤ 255 → 1 ≤ replay → replay ≤ 15 → retry ≤ 7 →
      (0x1048 : Word).toNat ≠ 256 * busy + 16 * replay + retry := by
  have h1003 : (0x1003 : Word).toNat = 0x1003 := rfl
  have h1048 : (0x1048 : Word).toNat = 0x1048 := rfl
  refine ⟨rfl, by decide, by decide, rfl, by decide, rfl, rfl, ?_, ?_⟩ <;>
    intro busy replay retry h1 h2 h3 h4 <;> omega

theorem witness_IntStatusAndPinShowTheConditions : completeA.sticky &&& ~~~0x700F = 0 ∧
    { completeA with sticky := 0x700F }.sticky &&& ~~~0x700F = 0 ∧ completeA.inReset = false ∧
    completeA.intN = false ∧ intStatus completeA = 0x0100 ∧ (after .pinReset completeA).inReset = true := by
  decide

theorem witness_InterruptRegisterWrites : completeA.inReset = false ∧
    completeA.sticky &&& ~~~0x700F = 0 ∧
    (∀ n, (0x730F : Word).getLsbD n = true → n ∈ [0, 1, 2, 3, 8, 9, 12, 13, 14]) ∧
    (0x0010 : Word).getLsbD 4 = true ∧ 4 ∉ [0, 1, 2, 3, 8, 9, 12, 13, 14] := by
  refine ⟨rfl, rfl, fun n h => ?_, by decide, by decide⟩
  have hn : n < 16 := by
    by_contra hc
    rw [BitVec.getLsbD_of_ge _ _ (by omega)] at h
    exact Bool.false_ne_true h
  exact (by decide : ∀ n, n < 16 → (0x730F : Word).getLsbD n = true →
    n ∈ [0, 1, 2, 3, 8, 9, 12, 13, 14]) n hn h

theorem witness_StartBeginsTraining : (State.reset.link State.reset.linkSelect).ctl.state = .off ∧
    (State.reset.link State.reset.linkSelect).sch.ready = [] ∧ State.reset.inReset = false ∧
    ((after (.malformedFrame 2) seqC).link 2).ctl.state = .failed ∧
    ((after (.malformedFrame 2) seqC).link 2).sch.ready = [] ∧
    (after (.malformedFrame 2) seqC).linkSelect = 2 ∧
    ((after .start State.reset).link 0).ctl.state = .training ∧
    ({ seqA with linkSelect := 1 }.link 1).ctl.state = .up ∧ (7 : Word) ≠ 1 ∧ (7 : Word) ≠ 2 := by decide

theorem witness_StopTakesTheLinkOff : (seqC.link seqC.linkSelect).ctl.state = .up ∧
    seqC.inReset = false ∧ ((after .start State.reset).link 0).ctl.state = .training ∧
    (after .start State.reset).linkSelect = 0 ∧
    ((after (.malformedFrame 2) seqC).link (after (.malformedFrame 2) seqC).linkSelect).ctl.state = .failed := by
  decide

theorem witness_FailureBringsTheLinkDown : (seqC.link 2).ctl.state = .up ∧
    ((State.reset.setLink 3 training).link 3).ctl.state = .training := by decide

theorem witness_TickIsCountedEverywhere : loaded.inReset = false ∧ loaded.cq.length = 1 ∧
    (awaitA.tag 0).timer ≠ .stopped ∧ awaitA.inReset = false := by decide

theorem witness_AgeCountsIncrement :
    let r : CplRecord := { recordA with age := { count := 9, ticks := 161 } }
    let e : EvtRecord := { link := 3, station := 4, code := 1, payload := 2, lostBefore := 0, time := 0,
                           age := { count := 254, ticks := 4081 } }
    let s : State := { State.reset with cq := [recordA, r], eq := [e], eqAge := 255 }
    let t : State := { State.reset with cq := [r], cqAge := 10 }
    s.inReset = false ∧ s.cq[1]? = some r ∧ r.age.due = true ∧ s.eq[0]? = some e ∧ e.age.due = true ∧
    t.cq = r :: [] ∧ r.age.count + 1 = t.cqAge ∧ s.eq = e :: [] ∧ e.age.count + 1 = s.eqAge := by decide

theorem witness_ReplyExpiryResendsOrCompletes :
    let s := seqA.setTag 0 (tagA .await 1 0 (.reply { elapsed := 1025, duration := 1024 }))
    let u := seqA.setTag 0
      { tagA .await 4 0 (.reply { elapsed := 1025, duration := 1024 }) with timeouts := 3 }
    s.inReset = false ∧ (s.tag 0).state = .await ∧
    (s.tag 0).timer = .reply { elapsed := 1025, duration := 1024 } ∧ 1024 < 1025 ∧
    (s.tag 0).timeouts + 1 ≤ (s.link (s.tag 0).link).cfg.retryLimit ∧ (u.tag 0).state = .await ∧
    (u.link (u.tag 0).link).cfg.retryLimit < (u.tag 0).timeouts + 1 := by decide

theorem witness_DelayExpiryMakesTheTagReady : deferredA.inReset = false ∧ (deferredA.tag 0).state = .deferred ∧
    (deferredA.tag 0).timer = .retryDelay { elapsed := 129, duration := 128 } ∧ 128 < 129 := by decide

/-- L1 with the outbound pause set and its hold timer due. -/
def heldL1 : Link := { up with sch := { up.sch with
  outPause := true, holdTimer := some { elapsed := 10241, duration := 10240 } } }

theorem witness_OutboundPauseIsSetAndCleared :
    let s := State.reset.setLink 1 heldL1
    s.inReset = false ∧ (s.link 1).sch.holdTimer = some { elapsed := 10241, duration := 10240 } ∧
    10240 < 10241 ∧ (s.link 1).ctl.state = .up ∧ (s.link 1).sch.outPause = true ∧
    (seqA.link 1).ctl.state = .up ∧ (seqA.link 1).sch.outPause = false ∧
    (State.reset.link 1).ctl.state ≠ .up := by decide

theorem witness_ReplayExpiryStartsAPass :
    let k : Link := { lost with pst := { lost.pst with timer := some { elapsed := 1025, duration := 1024 } } }
    let s := State.reset.setLink 0 k
    let u := State.reset.setLink 0 { k with pst := { k.pst with attempts := 4 } }
    s.inReset = false ∧ (s.link 0).ctl.state = .up ∧
    (s.link 0).pst.timer = some { elapsed := 1025, duration := 1024 } ∧ 1024 < 1025 ∧
    (s.link 0).pst.attempts + 1 ≤ (s.link 0).cfg.replayLimit ∧ (u.link 0).ctl.state = .up ∧
    (u.link 0).cfg.replayLimit < (u.link 0).pst.attempts + 1 := by decide

theorem witness_HelloExpiryRepeatsOrFails :
    let k (n : Nat) : Link := { training with
      ctl := { training.ctl with trainAttempts := n, helloTimer := some { elapsed := 1001, duration := 1000 } } }
    let s (n : Nat) : State := State.reset.setLink 3 (k n)
    ((s 15).link 3).ctl.state = .training ∧ (s 15).inReset = false ∧
    ((s 15).link 3).ctl.helloTimer = some { elapsed := 1001, duration := 1000 } ∧ 1000 < 1001 ∧
    ((s 15).link 3).ctl.trainAttempts < 16 ∧ 16 ≤ ((s 16).link 3).ctl.trainAttempts := by decide

theorem witness_RequestEndEntersAwait :
    let f : TxFrame := .rd 0 1 3 0x000140
    let resent (state : TagState) : State :=
      (seqA.setTag 0 (tagA state 1 0 .stopped)).setLink 1
        { up with sch := { up.sch with tx := .sending f .resend } }
    let gone : State := (seqA.setTag 0 (tagA .complete 1 0 .stopped)).setLink 1
      { up with sch := { up.sch with tx := .sending f (.queueHead false) } }
    let wrc : TxFrame := .wrc 0 1 3 0x000140 0xBEEF
    let resentWrc : State := (resent .resend).setLink 1 { up with sch := { up.sch with tx := .sending wrc .resend } }
    (f = .rd 0 1 3 0x000140 ∨ f = .wrc 0 1 3 0x000140 0) ∧
    (wrc = .rd 0 1 3 0x000140 ∨ wrc = .wrc 0 1 3 0x000140 0xBEEF) ∧
    (resentWrc.link 1).sch.tx = .sending wrc .resend ∧ loaded.inReset = false ∧
    ((resent .resend).link 1).sch.tx = .sending f .resend ∧ ((resent .resend).tag 0).gen = 1 ∧
    ((resent .resend).tag 0).link = 1 ∧ ((resent .resend).tag 0).state = .resend ∧
    ((resent .complete).tag 0).state ≠ .resend ∧
    (loaded.link 1).sch.tx = .sending f (.queueHead true) ∧ (loaded.link 1).sch.txq = .ref 0 :: [] ∧
    (loaded.tag 0).gen = 1 ∧ (loaded.tag 0).link = 1 ∧ (loaded.tag 0).state = .queued ∧
    (gone.link 1).sch.tx = .sending f (.queueHead false) := by decide

theorem witness_WriteEndJoinsTheReplayList :
    let s := after (.streamData 0x0A00) seqA
    s.inReset = false ∧ (s.link 1).sch.tx = .sending (.wr 0 3 0x000140 0x0A00) (.queueHead true) ∧
    (s.link 1).sch.txq =
      .posted { station := 3, remoteAddr := 0x000140, data := 0x0A00, hostAddr := 0x210140 } :: [] := by
  decide

/-- L0 with the last pass frame on the line and its pass at the end. -/
def lastPass (replay : List ReplayEntry) (duplicates attempts : Nat) : Link :=
  { lost with
    sch := { lost.sch with tx := .sending (.wr 20 2 0x000010 0x0101) .pass }
    pst := { lost.pst with
      timer := none, pass := .active none, replay := replay, duplicates := duplicates, attempts := attempts } }

theorem witness_OtherEndsFreeTheTransmitter :
    let rest : List ReplayEntry := [{ seq := 20, write := write 2 0x100020 }]
    ((after .start State.reset).link 0).sch.tx = .sending .hello .control ∧
    { up.sch with tx := .aborting [0x5A, 0xA5] }.tx = .aborting [0x5A, 0xA5] ∧
    (lastPass rest 0 0).sch.tx = .sending (.wr 20 2 0x000010 0x0101) .pass ∧
    (lastPass rest 0 0).pst.pass = .active none ∧ (lastPass [] 0 0).pst.replay = [] ∧
    (lastPass rest 0 0).pst.replay ≠ [] ∧ (lastPass rest 1 0).pst.duplicates < 2 ∧
    (lastPass rest 2 0).pst.duplicates = 2 ∧
    (lastPass rest 2 3).pst.attempts + 1 ≤ (lastPass rest 2 3).cfg.replayLimit ∧
    (lastPass rest 2 4).cfg.replayLimit < (lastPass rest 2 4).pst.attempts + 1 ∧
    (lastPass rest 2 4).ctl.state = .up ∧ ReplayPass.active (some 18) ≠ .active none := by decide

theorem witness_PickFollowsThePriority :
    let blocked : Link := { lost with
      sch := { lost.sch with resend := [3, 4, 0], txq := [.posted (write 2 0x100000), .ref 0] } }
    let pass : Link := { blocked with pst := { lost.pst with pass := .active (some 19) } }
    let tags := ((seqA.setTag 3 { Tag.pinReset with station := 2 }).setTag 4
      { Tag.pinReset with station := 4 }).tags
    blocked.sch.tx = .idle ∧ blocked.ctl.state = .up ∧ blocked.sch.helloAckPending = false ∧
    blocked.sch.pendingPause = .none ∧ blocked.sch.outPause = false ∧ blocked.pst.pass = .none ∧
    blocked.sch.resend = [3, 4] ++ 0 :: [] ∧ blocked.holdsBack tags[(0 : TagId)].station = false ∧
    (∀ j ∈ ([3, 4] : List TagId), blocked.holdsBack tags[j].station = true) ∧
    pass.pst.pass = .active (some 19) ∧
    pass.pst.replay = [{ seq := 17, write := write 2 0x100017 }, { seq := 18, write := write 2 0x100018 }] ++
      { seq := 19, write := write 4 0x100019 } :: [{ seq := 20, write := write 2 0x100020 }] ∧
    (∀ j ∈ lost.sch.resend, lost.holdsBack tags[j].station = true) ∧ lost.sch.txq = [] ∧
    (loaded.link 1).sch.tx ≠ .idle ∧ training.sch.tx = .idle ∧ training.ctl.state = .training ∧
    heldL1.sch.outPause = true ∧ (tagA .queued 0 0 .stopped).kind = .read ∧
    ((after .issueWriteConfirmed { chapter5 with wdata := 0xBEEF }).tag 30).kind = .writeConfirmed ∧
    ((after .issueWriteConfirmed { chapter5 with wdata := 0xBEEF }).tag 30).writeData = some 0xBEEF := by
  decide

theorem witness_HelloBringsTheLinkUp :
    let s := State.reset.setLink 3 training
    s.inReset = false ∧ (s.link 3).ctl.state = .training ∧ (s.link 3).sch.ready = [] ∧
    (loaded.link 1).ctl.state = .up ∧ (s.link 0).ctl.state = .off ∧
    ((after (.malformedFrame 2) seqC).link 2).ctl.state = .failed := by decide

theorem witness_ProgressAcknowledgementRemovesEntries :
    let s := State.reset.setLink 0 lost
    let e : ReplayEntry := { seq := 17, write := write 2 0x100017 }
    let more := lost.pst.replay.drop 1
    s.inReset = false ∧ (s.link 0).ctl.state = .up ∧ (s.link 0).pst.replay = e :: more ∧
    more.length + 1 ≤ 8 ∧ 1 ≤ 4 ∧ 4 ≤ more.length + 1 ∧
    (18 : Byte).setWidth 6 = e.seq + BitVec.ofNat 6 1 ∧
    (21 : Byte).setWidth 6 = e.seq + BitVec.ofNat 6 4 ∧ (s.link 0).pst.pass = .none ∧
    (lastPass lost.pst.replay 0 0).pst.pass = .active none ∧
    (∀ x ∈ lost.pst.replay.take 1, x.seq ≠ 19) ∧
    e ∈ lost.pst.replay.take 1 ∧ lost.pst.replay.drop 1 ≠ [] ∧ lost.pst.replay.drop 4 = [] := by decide

theorem witness_OtherAcknowledgementsLeaveTheList :
    let s := State.reset.setLink 0 lost
    (State.reset.link 0).ctl.state ≠ .up ∧ (s.link 0).ctl.state = .up ∧ s.inReset = false ∧
    (s.link 0).pst.replay.head?.map (·.seq) = some 17 ∧ (17 : Byte).setWidth 6 = (17 : Seq) ∧
    (s.link 0).pst.duplicates + 1 < 2 ∧ (lastPass lost.pst.replay 1 0).pst.pass ≠ .none ∧
    2 ≤ { lost.pst with duplicates := 1 }.duplicates + 1 ∧ lost.pst.pass = .none ∧
    lost.pst.attempts + 1 ≤ lost.cfg.replayLimit ∧
    lost.cfg.replayLimit < { lost.pst with attempts := 4 }.attempts + 1 ∧
    (s.link 0).pst.replay.length ≤ 8 ∧
    (∀ e ∈ (s.link 0).pst.replay.head?, ∀ n, n ≤ 4 → (22 : Byte).setWidth 6 ≠ e.seq + BitVec.ofNat 6 n) ∧
    (∀ e ∈ (s.link 0).pst.replay.head?, ∀ n, n ≤ 4 → (16 : Byte).setWidth 6 ≠ e.seq + BitVec.ofNat 6 n) := by
  decide

theorem witness_FinalAnswersCompleteOrAreStale :
    let wrc : Tag := { tagA .queued 1 0 .stopped with kind := .writeConfirmed, writeData := some 1 }
    (awaitA.link 1).ctl.state = .up ∧ awaitA.inReset = false ∧ (awaitA.tag 0).gen.toNat = 0x20 / 32 % 4 ∧
    (awaitA.tag 0).link = 1 ∧ (awaitA.tag 0).station = 3 ∧ (awaitA.tag 0).kind = .read ∧
    (awaitA.tag 0).state = .await ∧ wrc.state = .queued ∧ 1 ≤ wrc.attempts ∧ wrc.kind = .writeConfirmed ∧
    (awaitA.tag 0).gen.toNat ≠ 0x40 / 32 % 4 ∧ (State.reset.link 1).ctl.state ≠ .up := by decide

theorem test_done_completes :
    let s := seqA.setTag 0
      { tagA .queued 1 0 .stopped with kind := .writeConfirmed, writeData := some 1 }
    registerRead (after (.done 1 3 0x20) s) 0x11 = 0x01A0 := by decide

theorem witness_RetryDefersOrCompletes :
    let s := awaitA
    let limited (n : Nat) : State :=
      awaitA.setLink 1 { up with cfg := { up.cfg with busyLimit := n } }
    (s.link 1).ctl.state = .up ∧ (State.reset.link 1).ctl.state ≠ .up ∧
    (s.tag 0).gen.toNat = (0x20 : Byte).toNat / 32 % 4 ∧ (s.tag 0).state = .await ∧
    (deferredA.tag 0).state ≠ .await ∧ min 255 ((s.tag 0).busy + 1) ≤ (s.link 1).cfg.busyLimit ∧
    ((limited 0).link 1).cfg.busyLimit ≠ 255 ∧
    ((limited 0).link 1).cfg.busyLimit < min 255 (((limited 0).tag 0).busy + 1) ∧
    ((limited 255).link 1).cfg.busyLimit = 255 := by decide

theorem witness_EventsAreStoredOrDropped :
    let e : EvtRecord := { link := 3, station := 4, code := 1, payload := 2, lostBefore := 0, time := 0,
                           age := { count := 0, ticks := 0 } }
    let full : State := { seqD with eq := List.replicate 64 e }
    let entering : State := { seqA with eq := [{ e with link := 1 }], highThreshold := 1, lowThreshold := 0
                              }.setLink 1 { up with evs := { EventSide.clear with count := 1 } }
    (seqD.link 3).ctl.state = .up ∧ seqD.inReset = false ∧ seqD.eq.length < 64 ∧
    (seqD.link 3).evs.paused = true ∧ ¬seqD.repeatK ≤ (seqD.link 3).evs.pauseRepeat + 1 ∧
    { seqD with repeatK := 1 }.repeatK ≤ (seqD.link 3).evs.pauseRepeat + 1 ∧
    (seqA.link 1).evs.paused = false ∧ (seqA.link 1).evs.count + 1 ≤ seqA.highThreshold ∧
    entering.inReset = false ∧ (entering.link 1).ctl.state = .up ∧ entering.eq.length < 64 ∧
    (entering.link 1).evs.paused = false ∧ entering.highThreshold < (entering.link 1).evs.count + 1 ∧
    64 ≤ full.eq.length ∧ (full.link 3).ctl.state = .up ∧ (full.link 3).evs.paused = true ∧
    (full.link 1).ctl.state ≠ .up := by decide

theorem witness_MalformedFramesCountAndFail : (State.reset.link 0).ctl.state = .off ∧ State.reset.inReset = false ∧
    ((after (.malformedFrame 2) seqC).link 2).ctl.state = .failed ∧ (seqA.link 1).ctl.state = .up ∧
    (seqA.link 1).rcv.consecutiveBad + 1 < 8 ∧ (seqC.link 2).ctl.state = .up ∧
    8 ≤ (seqC.link 2).rcv.consecutiveBad + 1 ∧
    ((after .start State.reset).link 0).ctl.state = .training := by decide

theorem witness_BytesFollowTheFramingTable :
    let good := keeping [0x10, 0x01, 0x0E, 0x5D] 4 false
    Receiver.clear.framing = .hunting ∧ good.framing = .inFrame ∧ 1 ≤ good.byteCount ∧
    good.judge = some (.hello 0 1) ∧ (keeping [0x10] 1 false).judge = none ∧
    (keeping [] 0 false).byteCount = 0 ∧ (keeping [] 0 true).badMark = true ∧
    ({ good with framing := .escaped } : Receiver).framing = .escaped ∧ (0x00 : Byte) ≠ 0xA5 ∧ (0x00 : Byte) ≠ 0x5A ∧
    (0x00 : Byte) ≠ 0x85 ∧ (0x00 : Byte) ≠ 0x7A := by decide

end Sys2Proof.Tests
end

section
/-! Proofs of the statements on outstanding requests and the tag table: the expiry of a retry-delay timer (R16) and
the end of the transmission of a request frame (R4). -/

namespace Sys2Proof.Proofs.TagTable

open Sys2Proof.Machine Sys2Proof.Laws

/-! ### The expiry of a retry-delay timer (R16) -/

/-- In DEFERRED the retry-delay timer alone decides whether the expiry is taken. -/
theorem delayDue_of_deferred {t : Tag} {c : Countdown} (hstate : t.state = .deferred)
    (htimer : t.timer = .retryDelay c) : t.delayDue = c.due := by
  simp [Tag.delayDue, hstate, htimer]

theorem exec_retryDelayExpiry_of_due {s : State} {i : TagId} (hrun : s.inReset = false)
    (hdue : (s.tag i).delayDue = true) : exec (.retryDelayExpiry i) s = .next (delayExpiry s i) := by
  show unlessReset s (if (s.tag i).delayDue then delayExpiry s i else s) = _
  rw [if_pos hdue, unlessReset_of_running _ _ hrun]

/-- Settles O43: a timer past its duration is due in DEFERRED, and the expiry is the state the statement writes. -/
theorem delayExpiryMakesTheTagReady : Obligations.DelayExpiryMakesTheTagReady := by
  intro s i c hrun hstate htimer hpast
  have hdue : (s.tag i).delayDue = true := by
    rw [delayDue_of_deferred hstate htimer]
    exact decide_eq_true hpast
  exact exec_retryDelayExpiry_of_due hrun hdue

/-! ### What a request frame is judged by at its end (R4) -/

theorem request_of_rd_or_wrc {f : TxFrame} {i : TagId} {g : Gen} {st : StationId} {a : Addr} {data : Word}
    (hf : f = .rd i g st a ∨ f = .wrc i g st a data) : f.request = some (i, g) := by
  rcases hf with rfl | rfl <;> rfl

theorem stillSent_iff {t : Tag} {g : Gen} {l : LinkId} {st : TagState} :
    t.stillSent g l st = true ↔ t.gen = g ∧ t.link = l ∧ t.state = st := by
  simp [Tag.stillSent, and_assoc]

/-! ### The end of a frame picked from the resend order (R4) -/

theorem endResend_of_stillSent {s : State} {l : LinkId} {i : TagId} {g : Gen}
    (h : (s.tag i).stillSent g l .resend = true) :
    endResend s l i g = schedule
      ((s.setTag i ((s.tag i).transmitted (s.link l).cfg.replyTo)).setLink l (s.link l).txFree) l := by
  simp only [endResend]
  rw [tag_onLink, if_pos h, link_onLink_self]
  rfl

theorem endResend_of_not_stillSent {s : State} {l : LinkId} {i : TagId} {g : Gen}
    (h : ¬(s.tag i).stillSent g l .resend = true) :
    endResend s l i g = schedule (s.setLink l (s.link l).txFree) l := by
  simp only [endResend]
  rw [tag_onLink, if_neg h]
  rfl

/-! ### The end of a frame picked from the queue head (R4, R32) -/

/-- What lets a frame of the queue head send its tag to AWAIT: its entry is still held and at the head, and the tag
is what the frame was picked from. -/
def QueueHeadMatches (s : State) (l : LinkId) (i : TagId) (g : Gen) (held : Bool) : Prop :=
  held = true ∧ (s.link l).sch.txq.head? = some (.ref i) ∧ (s.tag i).gen = g ∧ (s.tag i).link = l ∧
    (s.tag i).state = .queued

/-- The test of `endQueued`, made after the transmitter is freed, is `QueueHeadMatches` of the state before. -/
theorem queueHeadMatches_iff {s : State} {l : LinkId} {i : TagId} {g : Gen} {held : Bool} :
    (held && decide (((s.onLink l Link.txFree).link l).sch.txq.head? = some (.ref i)) &&
      ((s.onLink l Link.txFree).tag i).stillSent g l .queued) = true ↔ QueueHeadMatches s l i g held := by
  simp only [Bool.and_eq_true, decide_eq_true_eq, link_onLink_self, tag_onLink, stillSent_iff, and_assoc]
  rfl

theorem endQueued_of_matches {s : State} {l : LinkId} {i : TagId} {g : Gen} {held : Bool}
    (h : QueueHeadMatches s l i g held) :
    endQueued s l i g held = schedule
      ((s.setTag i ((s.tag i).transmitted (s.link l).cfg.replyTo)).setLink l (s.link l).txFree.headLeaves) l := by
  simp only [endQueued, if_pos (queueHeadMatches_iff.mpr h)]
  simp only [onLink_eq_setLink, setTag_setLink, setLink_setLink, link_setLink_self, tag_setLink]
  rfl

theorem endQueued_of_not_matches {s : State} {l : LinkId} {i : TagId} {g : Gen} {held : Bool}
    (h : ¬QueueHeadMatches s l i g held) :
    endQueued s l i g held = schedule (s.setLink l (s.link l).txFree) l := by
  simp only [endQueued, if_neg (queueHeadMatches_iff.not.mpr h)]
  rfl

/-! ### The command (R4) -/

theorem exec_endOfRequest_of_running {s : State} (l : LinkId) (hrun : s.inReset = false) :
    exec (.endOfRequestTransmission l) s = .next (endRequest s l) :=
  unlessReset_of_running s _ hrun

theorem endRequest_of_resend {s : State} {l : LinkId} {f : TxFrame} {i : TagId} {g : Gen}
    (hf : f.request = some (i, g)) (htx : (s.link l).sch.tx = .sending f .resend) :
    endRequest s l = endResend s l i g := by
  simp only [endRequest, htx, hf]

theorem endRequest_of_queueHead {s : State} {l : LinkId} {f : TxFrame} {i : TagId} {g : Gen} {held : Bool}
    (hf : f.request = some (i, g)) (htx : (s.link l).sch.tx = .sending f (.queueHead held)) :
    endRequest s l = endQueued s l i g held := by
  simp only [endRequest, htx, hf]

/-- Settles O47: by the claimant the frame was picked from, and within it by whether the tag still matches. -/
theorem requestEndEntersAwait : Obligations.RequestEndEntersAwait := by
  intro s l f i g st a data hrun hf
  have hreq : f.request = some (i, g) := request_of_rd_or_wrc hf
  simp only [exec_endOfRequest_of_running l hrun]
  refine ⟨fun htx => ⟨fun hgen hlink hstate => ?_, fun hstale => ?_⟩,
    fun held htx => ⟨fun rest hheld htxq hgen hlink hstate => ?_, fun hstale => ?_⟩⟩
  · rw [endRequest_of_resend hreq htx, endResend_of_stillSent (stillSent_iff.mpr ⟨hgen, hlink, hstate⟩)]
    rfl
  · rw [endRequest_of_resend hreq htx, endResend_of_not_stillSent (stillSent_iff.not.mpr hstale)]
    rfl
  · have hmatch : QueueHeadMatches s l i g held := ⟨hheld, by rw [htxq]; rfl, hgen, hlink, hstate⟩
    have hleaves : (s.link l).txFree.headLeaves =
        { s.link l with sch := { (s.link l).sch with tx := .idle, txq := rest } } := by
      simp [Link.txFree, Link.headLeaves, htxq]
    rw [endRequest_of_queueHead hreq htx, endQueued_of_matches hmatch, hleaves]
    rfl
  · rw [endRequest_of_queueHead hreq htx, endQueued_of_not_matches hstale]
    rfl

end Sys2Proof.Proofs.TagTable
end

section
/-! The statements of "Transmit queues and link scheduling" (`spec/02_transmit_queues_and_link_scheduling.md`): the
scheduler's pick. -/

namespace Sys2Proof.Proofs.LinkScheduling

open Sys2Proof.Machine Sys2Proof.Laws

section

variable {tags : Vector Tag 32} {k : Link}

theorem holdsBack_iff {st : StationId} :
    k.holdsBack st = true ↔ ∃ e ∈ k.pst.replay, e.write.station = st := by
  simp [Link.holdsBack]

/-! ### The frame of a request (R132) -/

theorem requestFrame_of_read {i : TagId} {t : Tag} (hkind : t.kind = .read) :
    requestFrame i t = .rd i t.gen t.station t.remoteAddr := by
  simp [requestFrame, hkind]

theorem requestFrame_of_writeConfirmed {i : TagId} {t : Tag} {w : Word} (hkind : t.kind = .writeConfirmed)
    (hdata : t.writeData = some w) : requestFrame i t = .wrc i t.gen t.station t.remoteAddr w := by
  simp [requestFrame, hkind, hdata]

/-! ### The pick by the link state and the control-frame slot (R39, R42, R43) -/

theorem pick_of_training (hidle : k.sch.tx = .idle) (hstate : k.ctl.state = .training) :
    pick tags k = pickTraining k := by
  simp [pick, hidle, hstate]

theorem pick_of_up (hidle : k.sch.tx = .idle) (hstate : k.ctl.state = .up) :
    pick tags k = pickUp tags k := by
  simp [pick, hidle, hstate]

theorem pickUp_of_helloAck (hack : k.sch.helloAckPending = true) :
    pickUp tags k =
      { k with sch := { k.sch with helloAckPending := false, tx := .sending .helloAck .control } } :=
  if_pos hack

theorem pickUp_of_pause (hack : k.sch.helloAckPending = false) (hslot : k.sch.pendingPause = .pause) :
    pickUp tags k = { k with sch := { k.sch with
      pendingPause := .none, lastPause := .pause, tx := .sending .pause .control } } := by
  simp [pickUp, hack, hslot]

theorem pickUp_of_resume (hack : k.sch.helloAckPending = false) (hslot : k.sch.pendingPause = .resume) :
    pickUp tags k = { k with sch := { k.sch with
      pendingPause := .none, lastPause := .resume, tx := .sending .resume .control } } := by
  simp [pickUp, hack, hslot]

theorem pickUp_of_slot_clear (hack : k.sch.helloAckPending = false) (hslot : k.sch.pendingPause = .none) :
    pickUp tags k = if k.sch.outPause then k else pickTraffic tags k := by
  simp [pickUp, hack, hslot]

/-! ### The entry of a replay pass (R63) -/

/-- The entry at the position is the first of its sequence number, and the position moves on to the one behind it. -/
theorem passEntry_of_position {before after : List ReplayEntry} {e : ReplayEntry}
    (hpass : k.pst.pass = .active (some e.seq)) (hreplay : k.pst.replay = before ++ e :: after)
    (hfirst : ∀ x ∈ before, x.seq ≠ e.seq) :
    k.passEntry = some (e, after.head?.map (·.seq)) := by
  have hdrop : k.pst.replay.dropWhile (fun x => decide (x.seq ≠ e.seq)) = e :: after := by
    rw [hreplay, List.dropWhile_append_of_pos (by simpa using hfirst)]
    simp
  simp only [Link.passEntry, hpass, hdrop]

theorem passEntry_of_no_position (hpass : k.pst.pass = .none ∨ k.pst.pass = .active none) :
    k.passEntry = none := by
  rcases hpass with h | h <;> simp [Link.passEntry, h]

/-! ### The choice from the resend order (R40) -/

theorem resendChoice_of_first {before after : List TagId} {i : TagId}
    (hresend : k.sch.resend = before ++ i :: after) (hfree : k.holdsBack tags[i].station = false)
    (hheld : ∀ j ∈ before, k.holdsBack tags[j].station = true) : resendChoice tags k = some i := by
  rw [resendChoice, List.find?_eq_some_iff_append]
  exact ⟨by simpa using hfree, before, after, hresend, fun j hj => by simpa using hheld j hj⟩

theorem resendChoice_of_all_held (hheld : ∀ j ∈ k.sch.resend, k.holdsBack tags[j].station = true) :
    resendChoice tags k = none := by
  rw [resendChoice, List.find?_eq_none]
  exact fun j hj => by simpa using hheld j hj

/-- The chosen tag does not stand before its own place, since every tag there is held back, so the erasure takes out
that place. -/
theorem resend_erase_of_first {before after : List TagId} {i : TagId}
    (hresend : k.sch.resend = before ++ i :: after) (hfree : k.holdsBack tags[i].station = false)
    (hheld : ∀ j ∈ before, k.holdsBack tags[j].station = true) :
    k.sch.resend.erase i = before ++ after := by
  have hnot : i ∉ before := fun hi => Bool.eq_false_iff.mp hfree (hheld i hi)
  rw [hresend, List.erase_append_right _ hnot, List.erase_cons_head]

/-! ### The head of the transmit queue (R35, R36, R53) -/

theorem headFrame_of_nil (htxq : k.sch.txq = []) : headFrame tags k = none := by
  simp [headFrame, htxq]

theorem headFrame_of_posted {p : Posted} {rest : List QEntry} (htxq : k.sch.txq = .posted p :: rest) :
    headFrame tags k = if k.pst.replay.length < 8 ∧ k.pst.pass = .none
      then some (.wr k.pst.nextSeq p.station p.remoteAddr p.data) else none := by
  simp only [headFrame, htxq]
  rfl

theorem headFrame_of_ref {i : TagId} {rest : List QEntry} (htxq : k.sch.txq = .ref i :: rest) :
    headFrame tags k =
      if k.holdsBack tags[i].station then none else some (requestFrame i tags[i]) := by
  simp only [headFrame, htxq]

/-! ### The pick among replay pass, resend order and queue head (R39) -/

theorem pickTraffic_of_passEntry {e : ReplayEntry} {next : Option Seq} (hentry : k.passEntry = some (e, next)) :
    pickTraffic tags k =
      { k.send (writeFrame e.seq e.write) .pass with pst := { k.pst with pass := .active next } } := by
  simp only [pickTraffic, hentry]

theorem pickTraffic_of_resendChoice {i : TagId} (hentry : k.passEntry = none)
    (hchoice : resendChoice tags k = some i) :
    pickTraffic tags k = { k with sch := { k.sch with
      resend := k.sch.resend.erase i, tx := .sending (requestFrame i tags[i]) .resend } } := by
  simp only [pickTraffic, hentry, hchoice]

theorem pickTraffic_of_head (hentry : k.passEntry = none) (hchoice : resendChoice tags k = none) :
    pickTraffic tags k = (headFrame tags k).elim k (fun f => k.send f (.queueHead true)) := by
  simp only [pickTraffic, hentry, hchoice]
  cases headFrame tags k <;> rfl

end

/-- Settles O50: by the link state, then by the claimants in the order of their priority. -/
theorem pickFollowsThePriority : Obligations.PickFollowsThePriority := by
  intro tags k
  refine ⟨fun st => holdsBack_iff,
    fun i t => ⟨requestFrame_of_read, fun w => requestFrame_of_writeConfirmed⟩,
    fun h => h.elim pick_of_busy pick_of_down, fun hidle hstate => pick_of_training hidle hstate,
    fun hidle hstate hack => (pick_of_up hidle hstate).trans (pickUp_of_helloAck hack),
    fun hidle hstate hack => ?_⟩
  rw [pick_of_up hidle hstate]
  refine ⟨pickUp_of_pause hack, pickUp_of_resume hack, fun hslot hpaused => ?_, fun hslot hopen => ?_⟩
  · rw [pickUp_of_slot_clear hack hslot, if_pos hpaused]
  have htraffic : pickUp tags k = pickTraffic tags k := by
    rw [pickUp_of_slot_clear hack hslot, hopen]
    rfl
  rw [htraffic]
  refine ⟨fun before e after hpass hreplay hfirst =>
    pickTraffic_of_passEntry (passEntry_of_position hpass hreplay hfirst), fun hpass => ?_⟩
  have hentry := passEntry_of_no_position hpass
  refine ⟨fun before i after hresend hfree hheld => ?_, fun hheld => ?_⟩
  · rw [pickTraffic_of_resendChoice hentry (resendChoice_of_first hresend hfree hheld),
      resend_erase_of_first hresend hfree hheld]
  rw [pickTraffic_of_head hentry (resendChoice_of_all_held hheld)]
  refine ⟨fun p rest htxq => ?posted, fun i rest htxq => ?ref, fun htxq => ?empty⟩
  case posted => rw [headFrame_of_posted htxq, apply_ite (Option.elim · k _)]; rfl
  case ref => rw [headFrame_of_ref htxq, apply_ite (Option.elim · k _)]; rfl
  case empty => rw [headFrame_of_nil htxq]; rfl

end Sys2Proof.Proofs.LinkScheduling
end

section
/-! The statements of "Address decode and request issue" (`spec/05_address_decode_and_request_issue.md`): matching
and translation by the window table. -/

namespace Sys2Proof.Proofs.AddressDecode

open Sys2Proof.Machine

/-! ### The bits of an address from a position upward, as a quotient -/

theorem ushiftRight_eq_iff {a b : Addr} {e : Nat} :
    a >>> e = b >>> e ↔ a.toNat / 2 ^ e = b.toNat / 2 ^ e := by
  simp only [← BitVec.toNat_inj, BitVec.toNat_ushiftRight, Nat.shiftRight_eq_div_pow]

/-! ### Matching (R86, R87) -/

theorem dirWindow_hits_iff {w : DirWindow} {a : Addr} :
    w.hits a = true ↔ w.enable = true ∧ a.toNat / 2 ^ w.exp = w.base.toNat / 2 ^ w.exp := by
  simp only [DirWindow.hits, Bool.and_eq_true, beq_iff_eq, ushiftRight_eq_iff]

/-- WS is valid exactly while its five selecting bits lie inside its block. -/
theorem stripedWindow_invalid_eq_false_iff {w : StripedWindow} : w.invalid = false ↔ w.shift + 5 ≤ w.exp := by
  simp only [StripedWindow.invalid, decide_eq_false_iff_not, Nat.not_lt]

theorem stripedWindow_hits_iff {w : StripedWindow} {a : Addr} :
    w.hits a = true ↔
      w.enable = true ∧ w.shift + 5 ≤ w.exp ∧ a.toNat / 2 ^ w.exp = w.base.toNat / 2 ^ w.exp := by
  simp only [StripedWindow.hits, Bool.and_eq_true, Bool.not_eq_true', beq_iff_eq, ushiftRight_eq_iff,
    stripedWindow_invalid_eq_false_iff, and_assoc]

/-! ### Translation by a directed window (R86) -/

/-- It holds at e = 24 too, where the one is shifted out of the word and 0 - 1 sets every bit. -/
theorem lowMask_toNat {e : Nat} (he : e ≤ 24) : (lowMask e).toNat = 2 ^ e - 1 := by
  have hpow : 2 ^ e ≤ 2 ^ 24 := Nat.pow_le_pow_right (by decide) he
  have hpos : 0 < 2 ^ e := Nat.two_pow_pos e
  have hone : (1 : Addr).toNat = 1 := rfl
  simp only [lowMask, BitVec.toNat_sub, BitVec.natCast_eq_ofNat, BitVec.toNat_ofNat, Nat.one_shiftLeft, hone]
  omega

theorem lowMask_getLsbD {e : Nat} (he : e ≤ 24) (i : Nat) : (lowMask e).getLsbD i = decide (i < e) := by
  rw [BitVec.getLsbD, lowMask_toNat he, Nat.testBit_two_pow_sub_one]

/-- The bits below e are those of the address, the bits from e upward those of remap. -/
theorem translate_getLsbD {w : DirWindow} (he : w.exp ≤ 24) (a : Addr) (i : Nat) :
    (w.translate a).getLsbD i = if i < w.exp then a.getLsbD i else w.remap.getLsbD i := by
  simp only [DirWindow.translate, BitVec.getLsbD_or, BitVec.getLsbD_and, BitVec.getLsbD_not, lowMask_getLsbD he]
  by_cases hlow : i < w.exp
  · simp [hlow]
  · have hwidth : w.remap.getLsbD i = true → i < 24 := BitVec.lt_of_getLsbD
    simpa [hlow] using hwidth

theorem translate_toNat {w : DirWindow} (he : w.exp ≤ 24) (a : Addr) :
    (w.translate a).toNat =
      w.remap.toNat / 2 ^ w.exp * 2 ^ w.exp + a.toNat % 2 ^ w.exp := by
  have hrem : a.toNat % 2 ^ w.exp < 2 ^ w.exp := Nat.mod_lt _ (Nat.two_pow_pos _)
  refine Nat.eq_of_testBit_eq fun i => ?_
  rw [Nat.mul_comm, Nat.testBit_two_pow_mul_add _ hrem]
  refine (translate_getLsbD he a i).trans ?_
  by_cases hlow : i < w.exp
  · rw [if_pos hlow, if_pos hlow, Nat.testBit_mod_two_pow, decide_eq_true hlow, Bool.true_and]
    rfl
  · rw [if_neg hlow, if_neg hlow, Nat.testBit_div_two_pow, Nat.sub_add_cancel (Nat.not_lt.mp hlow)]
    rfl

/-! ### The selecting bits of WS (R87) -/

theorem linkOf_val (w : StripedWindow) (a : Addr) : (w.linkOf a).val = a.toNat / 2 ^ w.shift % 4 := by
  simp only [StripedWindow.linkOf, BitVec.toNat_ushiftRight, Nat.shiftRight_eq_div_pow]

theorem stationOf_val (w : StripedWindow) (a : Addr) :
    (w.stationOf a).val = a.toNat / 2 ^ (w.shift + 2) % 8 := by
  simp only [StripedWindow.stationOf, BitVec.toNat_ushiftRight, Nat.shiftRight_eq_div_pow]

/-- Settles O21: a directed window by its quotients and its translation, then WS by its selecting bits. -/
theorem windowsMatchAndTranslate : Obligations.WindowsMatchAndTranslate :=
  ⟨fun _ _ a _ hexp => ⟨dirWindow_hits_iff, rfl, rfl, rfl, rfl, translate_toNat hexp a⟩,
    fun s a => ⟨stripedWindow_hits_iff, rfl, linkOf_val s.striped a, stationOf_val s.striped a, rfl, rfl⟩⟩

end Sys2Proof.Proofs.AddressDecode
end

section
/-! What a command can do to the part, said once: the events of which every command is a chain, and the inversion of
`exec` that every invariant is proved from. -/

namespace Sys2Proof.Proofs.Inversion

open Sys2Proof Sys2Proof.Machine Sys2Proof.Laws

/-- A change of host registers alone, which keeps the configuration within its ranges. -/
structure RegistersOnly (s t : State) : Prop where
  tags : t.tags = s.tags
  links : t.links = s.links
  cq : t.cq = s.cq
  eq : t.eq = s.eq
  bus : t.bus = s.bus
  inReset : t.inReset = s.inReset
  pending : t.pending = s.pending
  legal : ConfigLegal s → ConfigLegal t

/-- A receiver as one byte or frame leaves it: its counts stay within their ranges. -/
def Receives (k : Link) (r : Receiver) : Prop := k.CountsLegal → { k with rcv := r }.CountsLegal

/-- A tag that an answer or an expiry has counted on its way to completion, with what the completion record and the
tag's place are read from unchanged. -/
structure Counted (t u : Tag) : Prop where
  state : u.state = t.state
  gen : u.gen = t.gen
  link : u.link = t.link
  station : u.station = t.station
  legal : t.CountsLegal → u.attempts ≤ 255 ∧ u.busy ≤ 255 ∧ u.timeouts ≤ 8

/-- What can happen to the part in one go. Each constructor carries the condition that the model tests for it. -/
inductive Event : State → State → Prop
  | registers {s t : State} (h : RegistersOnly s t) : Event s t
  | resetRelease {s : State} : Event s { s with inReset := false }
  | softReset {s : State} : Event s (softReset s)
  | linkConfig {s : State} {l : LinkId} {c : LinkConfig} (h : (s.link l).cfg.Legal → c.Legal) :
      Event s (s.setLink l { s.link l with cfg := c })
  | received {s : State} {l : LinkId} {r : Receiver} (h : Receives (s.link l) r) :
      Event s (s.setLink l { s.link l with rcv := r })
  | stale {s : State} {l : LinkId} : Event s (s.onLink l Link.countStale)
  | tick {s : State} : Event s (tick s)
  | ageIncrement {s : State} {q : AgedQueue} {n : Nat} : Event s (ageIncrement s q n)
  | popCompletion {s : State} : Event s (popCompletion s)
  | popEvent {s : State} : Event s (popEvent s)
  | posted {s : State} {l : LinkId} {p : Posted} (hup : (s.link l).ctl.state = .up)
      (hslot : (s.link l).sch.ready.length < (s.link l).freeSlots) :
      Event s (schedule (enqueue s l (.posted p)) l)
  | tagged {s : State} {i : TagId} {kind : ReqKind} {target : Target} {a : Addr} {w : Word}
      (hup : (s.link target.link).ctl.state = .up)
      (hslot : (s.link target.link).sch.ready.length < (s.link target.link).freeSlots)
      (hfree : (s.tag i).state = .free) :
      Event s (schedule (enqueue (s.setTag i ((s.tag i).allocated kind target a w)) target.link (.ref i))
        target.link)
  | start {s : State} {l : LinkId} (h : (s.link l).ctl.state = .off ∨ (s.link l).ctl.state = .failed) :
      Event s (startLink s l)
  | stop {s : State} {l : LinkId} : Event s (stopLink s l)
  | counted {s : State} {i : TagId} {t : Tag} {r : Result} (hstate : (s.tag i).state = .await)
      (h : Counted (s.tag i) t) : Event s (completeTag (s.setTag i t) i r)
  | resent {s : State} {i : TagId} (hstate : (s.tag i).state = .await)
      (hlimit : (s.tag i).timeouts + 1 ≤ (s.link (s.tag i).link).cfg.retryLimit) :
      Event s (schedule ((s.setTag i { s.tag i with
          timeouts := (s.tag i).timeouts + 1, state := .resend, timer := .stopped }).onLink (s.tag i).link
        (fun k => { k with sch := { k.sch with resend := k.sch.resend ++ [i] } })) (s.tag i).link)
  | readied {s : State} {i : TagId} (hstate : (s.tag i).state = .deferred) : Event s (delayExpiry s i)
  | deferred {s : State} {i : TagId} {c : Countdown} (hstate : (s.tag i).state = .await) :
      Event s (s.setTag i { s.tag i with
        busy := bump Config.byteMax (s.tag i).busy, state := .deferred, timer := .retryDelay c })
  | final {s : State} {l : LinkId} {i : TagId} {r : Result} (hlink : (s.tag i).link = l)
      (htakes : (s.tag i).takesFinal = true) : Event s (schedule (completeTag s i r) l)
  | paused {s : State} {l : LinkId} (hup : (s.link l).ctl.state = .up) : Event s (takePause s l)
  | unpaused {s : State} {l : LinkId} : Event s (holdExpiry s l)
  | event {s : State} {l : LinkId} {st : StationId} {code : Byte} {payload : Word}
      (hup : (s.link l).ctl.state = .up) : Event s (takeEvent s l st code payload)
  | helloExpiry {s : State} {l : LinkId} (h : (s.link l).helloExpires = true) : Event s (helloExpiry s l)
  | malformed {s : State} {l : LinkId} (h : (s.link l).judging = true) :
      Event s (failLink ((s.onLink l Link.hunting).onLink l Link.countBad) l .badFrames)
  | hello {s : State} {l : LinkId} : Event s (takeHello s l)
  | helloAck {s : State} {l : LinkId} : Event s (takeHelloAck s l)
  | ackProgress {s : State} {l : LinkId} {n : Nat} (hup : (s.link l).ctl.state = .up)
      (hn : 1 ≤ n) (hle : n ≤ (s.link l).pst.replay.length) :
      Event s (schedule (endPassIfOver (s.onLink l (Link.ackProgress n)) l) l)
  | ackDuplicate {s : State} {l : LinkId} (hup : (s.link l).ctl.state = .up) :
      Event s (s.onLink l Link.ackDuplicate)
  | ackPass {s : State} {l : LinkId} (hup : (s.link l).ctl.state = .up) (hreplay : (s.link l).pst.replay ≠ [])
      (hpass : (s.link l).pst.pass = .none) : Event s (schedule (askPass s l) l)
  | replayExpiry {s : State} {l : LinkId} (h : timerDue (s.link l).pst.timer = true) :
      Event s (replayExpiry s l)
  | endResend {s : State} {l : LinkId} {f : TxFrame} {i : TagId} {g : Gen} (hf : f.request = some (i, g))
      (htx : (s.link l).sch.tx = .sending f .resend) : Event s (endResend s l i g)
  | endQueued {s : State} {l : LinkId} {f : TxFrame} {i : TagId} {g : Gen} {held : Bool}
      (hf : f.request = some (i, g)) (htx : (s.link l).sch.tx = .sending f (.queueHead held)) :
      Event s (endQueued s l i g held)
  | endFirstWr {s : State} {l : LinkId} {seq : Seq} {st : StationId} {a : Addr} {d : Word} {held : Bool}
      (htx : (s.link l).sch.tx = .sending (.wr seq st a d) (.queueHead held)) : Event s (endFirstWr s l seq)
  | endPassFrame {s : State} {l : LinkId} {f : TxFrame} (htx : (s.link l).sch.tx = .sending f .pass) :
      Event s (endPassFrame s l)
  | freed {s : State} {l : LinkId}
      (htx : (∃ f, (s.link l).sch.tx = .sending f .control) ∨ ∃ rest, (s.link l).sch.tx = .aborting rest) :
      Event s (freeTransmitter s l)

/-- A chain of events. -/
abbrev Events : State → State → Prop := Relation.ReflTransGen Event

theorem Event.chain {s t : State} (h : Event s t) : Events s t := .single h

/-! ### Host registers -/

theorem registersOnly_refl (s : State) : RegistersOnly s s := ⟨rfl, rfl, rfl, rfl, rfl, rfl, rfl, id⟩

theorem or_legal {a b mask : Word} (ha : a &&& ~~~mask = 0) (hb : b &&& ~~~mask = 0) :
    (a ||| b) &&& ~~~mask = 0 := by
  rw [BitVec.and_or_distrib_right, ha, hb, BitVec.or_self]

theorem and_legal {a mask : Word} (b : Word) (ha : a &&& ~~~mask = 0) : (a &&& b) &&& ~~~mask = 0 := by
  rw [BitVec.and_comm a, BitVec.and_assoc, ha]; exact BitVec.and_zero

theorem registersOnly_raiseBit (s : State) {bit : Word} (hbit : bit &&& ~~~stickyMask = 0) :
    RegistersOnly s (s.raiseBit bit) := by
  refine ⟨rfl, rfl, rfl, rfl, rfl, rfl, rfl, fun h => ?_⟩
  obtain ⟨hct, hca, het, hea, hhi, hlo, hk, hw, he, hsh, hst, hie, hcfg⟩ := h
  exact ⟨hct, hca, het, hea, hhi, hlo, hk, hw, he, hsh, or_legal hst hbit, hie, hcfg⟩

theorem registersOnly_ifInRange {ok : Bool} {s t : State} (h : ok = true → RegistersOnly s t) :
    RegistersOnly s (ifInRange ok s t) := by
  cases ok with
  | true => exact h rfl
  | false => exact registersOnly_raiseBit s (by decide)

theorem registersOnly_report (s : State) (o : IssueOutcome) (t : Option Target) (tag : Option (TagId × Gen)) :
    RegistersOnly s (report s o t tag) := ⟨rfl, rfl, rfl, rfl, rfl, rfl, rfl, id⟩

theorem registersOnly_refuseStream (s : State) (o : IssueOutcome) (t : Option Target) :
    RegistersOnly s (refuseStream s o t) := by
  obtain ⟨htags, hlinks, hcq, heq, hbus, hreset, hpending, hlegal⟩ :=
    registersOnly_raiseBit (report s o t none) (bit := issueRefusedBit) (by decide)
  exact ⟨htags, hlinks, hcq, heq, hbus, hreset, hpending, fun h => hlegal h⟩

theorem registersOnly_reportCommand (s : State) (o : CmdOutcome) (c : CmdCode) :
    RegistersOnly s (reportCommand s o c) := ⟨rfl, rfl, rfl, rfl, rfl, rfl, rfl, id⟩

theorem registersOnly_stageAddr (s : State) (half : AddrHalf) (v : Word) : RegistersOnly s (stageAddr s half v) := by
  cases half <;> exact ⟨rfl, rfl, rfl, rfl, rfl, rfl, rfl, id⟩

theorem registersOnly_clearSticky (s : State) (v : Word) : RegistersOnly s (clearSticky s v) := by
  refine ⟨rfl, rfl, rfl, rfl, rfl, rfl, rfl, fun h => ?_⟩
  obtain ⟨hct, hca, het, hea, hhi, hlo, hk, hw, he, hsh, hst, hie, hcfg⟩ := h
  exact ⟨hct, hca, het, hea, hhi, hlo, hk, hw, he, hsh, and_legal _ hst, hie, hcfg⟩

theorem registersOnly_setIntEnable (s : State) (v : Word) : RegistersOnly s (setIntEnable s v) := by
  refine registersOnly_ifInRange fun hv => ⟨rfl, rfl, rfl, rfl, rfl, rfl, rfl, fun h => ?_⟩
  obtain ⟨hct, hca, het, hea, hhi, hlo, hk, hw, he, hsh, hst, hie, hcfg⟩ := h
  exact ⟨hct, hca, het, hea, hhi, hlo, hk, hw, he, hsh, hst, of_decide_eq_true hv, hcfg⟩

theorem registersOnly_setCqTrigger (s : State) (v : Word) : RegistersOnly s (setCqTrigger s v) := by
  refine registersOnly_ifInRange fun hv => ⟨rfl, rfl, rfl, rfl, rfl, rfl, rfl, fun h => ?_⟩
  obtain ⟨-, hca, het, hea, hhi, hlo, hk, hw, he, hsh, hst, hie, hcfg⟩ := h
  simp only [Bool.and_eq_true, decide_eq_true_eq] at hv
  exact ⟨hv, hca, het, hea, hhi, hlo, hk, hw, he, hsh, hst, hie, hcfg⟩

theorem registersOnly_setCqAge (s : State) (v : Word) : RegistersOnly s (setCqAge s v) := by
  refine registersOnly_ifInRange fun hv => ⟨rfl, rfl, rfl, rfl, rfl, rfl, rfl, fun h => ?_⟩
  obtain ⟨hct, -, het, hea, hhi, hlo, hk, hw, he, hsh, hst, hie, hcfg⟩ := h
  exact ⟨hct, of_decide_eq_true hv, het, hea, hhi, hlo, hk, hw, he, hsh, hst, hie, hcfg⟩

theorem registersOnly_setEqTrigger (s : State) (v : Word) : RegistersOnly s (setEqTrigger s v) := by
  refine registersOnly_ifInRange fun hv => ⟨rfl, rfl, rfl, rfl, rfl, rfl, rfl, fun h => ?_⟩
  obtain ⟨hct, hca, -, hea, hhi, hlo, hk, hw, he, hsh, hst, hie, hcfg⟩ := h
  simp only [Bool.and_eq_true, decide_eq_true_eq] at hv
  exact ⟨hct, hca, hv, hea, hhi, hlo, hk, hw, he, hsh, hst, hie, hcfg⟩

theorem registersOnly_setEqAge (s : State) (v : Word) : RegistersOnly s (setEqAge s v) := by
  refine registersOnly_ifInRange fun hv => ⟨rfl, rfl, rfl, rfl, rfl, rfl, rfl, fun h => ?_⟩
  obtain ⟨hct, hca, het, -, hhi, hlo, hk, hw, he, hsh, hst, hie, hcfg⟩ := h
  exact ⟨hct, hca, het, of_decide_eq_true hv, hhi, hlo, hk, hw, he, hsh, hst, hie, hcfg⟩

theorem field_lt (v : Word) (lo width : Nat) : field v lo width < 2 ^ width :=
  Nat.mod_lt _ (Nat.two_pow_pos width)

theorem registersOnly_setThresholds (s : State) (v : Word) : RegistersOnly s (setThresholds s v) := by
  refine registersOnly_ifInRange fun hv => ⟨rfl, rfl, rfl, rfl, rfl, rfl, rfl, fun h => ?_⟩
  obtain ⟨hct, hca, het, hea, -, -, hk, hw, he, hsh, hst, hie, hcfg⟩ := h
  simp only [thresholdsInRange, Bool.and_eq_true, decide_eq_true_eq] at hv
  obtain ⟨⟨⟨hone, hlow⟩, -⟩, -⟩ := hv
  exact ⟨hct, hca, het, hea, ⟨hone, Nat.le_of_lt_succ (field_lt v 8 6)⟩, hlow, hk, hw, he, hsh, hst, hie, hcfg⟩

theorem repeatInRange_iff {v : Word} : repeatInRange v = true ↔
    v.toNat = 1 ∨ v.toNat = 2 ∨ v.toNat = 4 ∨ v.toNat = 8 := by
  simp [repeatInRange, ← BitVec.toNat_inj, or_assoc]

theorem registersOnly_setRepeat (s : State) (v : Word) : RegistersOnly s (setRepeat s v) := by
  refine registersOnly_ifInRange fun hv => ⟨rfl, rfl, rfl, rfl, rfl, rfl, rfl, fun h => ?_⟩
  obtain ⟨hct, hca, het, hea, hhi, hlo, -, hw, he, hsh, hst, hie, hcfg⟩ := h
  exact ⟨hct, hca, het, hea, hhi, hlo, repeatInRange_iff.mp hv, hw, he, hsh, hst, hie, hcfg⟩

theorem registersOnly_setWinSelect (s : State) (v : Word) : RegistersOnly s (setWinSelect s v) := by
  by_cases hv : v.toNat < 9
  · rw [setWinSelect, dif_pos hv]; exact ⟨rfl, rfl, rfl, rfl, rfl, rfl, rfl, id⟩
  · rw [setWinSelect, dif_neg hv]; exact registersOnly_raiseBit s (by decide)

theorem registersOnly_setLinkSelect (s : State) (v : Word) : RegistersOnly s (setLinkSelect s v) := by
  by_cases hv : v.toNat < 4
  · rw [setLinkSelect, dif_pos hv]; exact ⟨rfl, rfl, rfl, rfl, rfl, rfl, rfl, id⟩
  · rw [setLinkSelect, dif_neg hv]; exact registersOnly_raiseBit s (by decide)

/-! ### The window table -/

theorem onWindow_windows (s : State) (k j : Fin 8) (f : DirWindow → DirWindow) :
    (onWindow s k f).windows[j] = if k = j then f s.windows[k] else s.windows[j] := by
  simp [onWindow, Vector.getElem_set, Fin.ext_iff]

theorem registersOnly_onWindow (s : State) (k : Fin 8) {f : DirWindow → DirWindow}
    (hexp : 8 ≤ s.windows[k].exp ∧ s.windows[k].exp ≤ 24 →
      8 ≤ (f s.windows[k]).exp ∧ (f s.windows[k]).exp ≤ 24) : RegistersOnly s (onWindow s k f) := by
  refine ⟨rfl, rfl, rfl, rfl, rfl, rfl, rfl, fun h => ?_⟩
  obtain ⟨hct, hca, het, hea, hhi, hlo, hk, hw, he, hsh, hst, hie, hcfg⟩ := h
  refine ⟨hct, hca, het, hea, hhi, hlo, hk, fun j => ?_, he, hsh, hst, hie, hcfg⟩
  rw [onWindow_windows]
  split
  · exact hexp (hw k)
  · exact hw j

theorem registersOnly_striped (s : State) {w : StripedWindow}
    (hexp : (14 ≤ s.striped.exp ∧ s.striped.exp ≤ 24) ∧ (8 ≤ s.striped.shift ∧ s.striped.shift ≤ 19) →
      (14 ≤ w.exp ∧ w.exp ≤ 24) ∧ (8 ≤ w.shift ∧ w.shift ≤ 19)) :
    RegistersOnly s { s with striped := w } := by
  refine ⟨rfl, rfl, rfl, rfl, rfl, rfl, rfl, fun h => ?_⟩
  obtain ⟨hct, hca, het, hea, hhi, hlo, hk, hw, he, hsh, hst, hie, hcfg⟩ := h
  obtain ⟨hexp', hshift'⟩ := hexp ⟨he, hsh⟩
  exact ⟨hct, hca, het, hea, hhi, hlo, hk, hw, hexp', hshift', hst, hie, hcfg⟩

theorem registersOnly_setWinCtrl (s : State) (v : Word) : RegistersOnly s (setWinCtrl s v) := by
  unfold setWinCtrl
  split
  · refine registersOnly_ifInRange fun hv => registersOnly_onWindow _ _ fun _ => ?_
    simp only [dirCtrlInRange, Bool.and_eq_true, decide_eq_true_eq] at hv
    obtain ⟨⟨⟨hexp, -⟩, -⟩, -⟩ := hv
    exact hexp
  · refine registersOnly_ifInRange fun hv => registersOnly_striped _ fun _ => ?_
    simp only [stripedCtrlInRange, Bool.and_eq_true, decide_eq_true_eq] at hv
    obtain ⟨⟨⟨⟨hexp, hlow⟩, hhigh⟩, -⟩, -⟩ := hv
    exact ⟨hexp, hlow, hhigh⟩

theorem registersOnly_onBase (s : State) (f : Addr → Addr) : RegistersOnly s (onBase s f) := by
  unfold onBase
  split
  · exact registersOnly_onWindow _ _ id
  · exact registersOnly_striped _ id

theorem registersOnly_setBaseHigh (s : State) (v : Word) : RegistersOnly s (setBaseHigh s v) :=
  registersOnly_ifInRange fun _ => registersOnly_onBase s _

theorem registersOnly_setRemapHigh (s : State) (v : Word) : RegistersOnly s (setRemapHigh s v) := by
  unfold setRemapHigh
  split
  · exact registersOnly_ifInRange fun _ => registersOnly_onWindow _ _ id
  · exact registersOnly_refl s

theorem registersOnly_setRemapLow (s : State) (v : Word) : RegistersOnly s (setRemapLow s v) := by
  unfold setRemapLow
  split
  · exact registersOnly_onWindow _ _ id
  · exact registersOnly_refl s

/-! ### Per-link configuration -/

theorem inUnits_iff {v : Word} : inUnits v = true ↔ 1 ≤ v.toNat ∧ v.toNat ≤ 255 := by
  simp [inUnits]

theorem events_setLinkConfig (s : State) {ok : Bool} {f : LinkConfig → LinkConfig}
    (h : ok = true → ∀ c : LinkConfig, c.Legal → (f c).Legal) : Events s (setLinkConfig s ok f) := by
  cases ok with
  | true => exact Event.chain (.linkConfig (h rfl _))
  | false => exact Event.chain (.registers (registersOnly_raiseBit s (by decide)))

theorem withLimits_legal {v : Word} (hv : limitsInRange v = true) {c : LinkConfig} (h : c.Legal) :
    (c.withLimits v).Legal := by
  simp only [limitsInRange, Bool.and_eq_true, decide_eq_true_eq] at hv
  obtain ⟨hrate, hdiv, hreply, hreplay, hdelay, hhold, -, -, -⟩ := h
  exact ⟨hrate, hdiv, hreply, hreplay, hdelay, hhold, Nat.le_of_lt_succ (field_lt v 0 3),
    Nat.le_of_lt_succ (field_lt v 8 8), hv.2, Nat.le_of_lt_succ (field_lt v 4 4)⟩

/-! ### Issue -/

/-- What the checks after the decode have found where they refuse nothing: the link is UP and its queue has a slot
beyond the tags of the ready-deferred list. -/
theorem of_issueRefusal_none {s : State} {kind : IssueKind} {t : Target} (h : issueRefusal s kind t = none) :
    (s.link t.link).ctl.state = .up ∧ (s.link t.link).sch.ready.length < (s.link t.link).freeSlots := by
  simp only [issueRefusal] at h
  split at h
  · cases h
  split at h
  · cases h
  split at h
  · cases h
  next hup hslot => exact ⟨Decidable.not_not.mp hup, Nat.lt_of_not_le hslot⟩

theorem lowestFree_free {s : State} {i : TagId} (h : lowestFree s = some i) : (s.tag i).state = .free := by
  simpa using List.find?_some h

theorem events_acceptPosted {s : State} {t : Target} (a : Addr) (w : Word)
    (hup : (s.link t.link).ctl.state = .up)
    (hslot : (s.link t.link).sch.ready.length < (s.link t.link).freeSlots) : Events s (acceptPosted s t a w) :=
  .head (.registers (registersOnly_report s .accepted (some t) none)) (.single (.posted hup hslot))

theorem events_acceptTagged {s : State} {kind : ReqKind} {t : Target} {a : Addr} {i : TagId}
    (hup : (s.link t.link).ctl.state = .up)
    (hslot : (s.link t.link).sch.ready.length < (s.link t.link).freeSlots) (hfree : lowestFree s = some i) :
    Events s (acceptTagged s kind t a i) :=
  .head (.registers (registersOnly_report s .accepted (some t)
    (some (i, ((s.tag i).allocated kind t a s.wdata).gen))))
    (.single (.tagged hup hslot (lowestFree_free hfree)))

theorem events_report (s : State) (o : IssueOutcome) (t : Option Target) (tag : Option (TagId × Gen)) :
    Events s (report s o t tag) := .single (.registers (registersOnly_report s o t tag))

theorem events_acceptIssue {s : State} (kind : IssueKind) {t : Target} (hup : (s.link t.link).ctl.state = .up)
    (hslot : (s.link t.link).sch.ready.length < (s.link t.link).freeSlots) : Events s (acceptIssue s kind t) := by
  unfold acceptIssue
  split
  case h_1 => exact events_acceptPosted _ _ hup hslot
  case h_2 hfree => exact events_acceptTagged hup hslot hfree
  case h_3 hfree => exact events_acceptTagged hup hslot hfree
  case h_4 => exact events_report ..
  case h_5 => exact events_report ..

theorem events_issue (s : State) (kind : IssueKind) : Events s (issue s kind) := by
  unfold issue
  split
  · exact events_report ..
  split
  · exact events_report ..
  next hnone =>
    obtain ⟨hup, hslot⟩ := of_issueRefusal_none hnone
    exact events_acceptIssue kind hup hslot

theorem events_issueCode (s : State) (v : Word) : Events s (issueCode s v) := by
  unfold issueCode
  split_ifs
  · exact events_issue s _
  · exact events_issue s _
  · exact events_issue s _
  · exact events_report ..

theorem events_refuseStream (s : State) (o : IssueOutcome) (t : Option Target) : Events s (refuseStream s o t) :=
  .single (.registers (registersOnly_refuseStream s o t))

theorem registersOnly_streamAddr (s : State) (a : Addr) : RegistersOnly s { s with streamAddr := a } :=
  ⟨rfl, rfl, rfl, rfl, rfl, rfl, rfl, id⟩

theorem events_stream (s : State) (w : Word) : Events s (stream s w) := by
  unfold stream
  split
  · exact events_refuseStream ..
  split
  · exact events_refuseStream ..
  next hnone =>
    obtain ⟨hup, hslot⟩ := of_issueRefusal_none hnone
    exact (events_acceptPosted _ _ hup hslot).tail (.registers (registersOnly_streamAddr ..))

/-! ### Link commands -/

theorem events_reportCommand (s : State) (o : CmdOutcome) (c : CmdCode) : Events s (reportCommand s o c) :=
  .single (.registers (registersOnly_reportCommand s o c))

theorem events_commandStart (s : State) : Events s (commandStart s) := by
  unfold commandStart
  split
  case h_1 hoff => exact (events_reportCommand ..).tail (.start (.inl hoff))
  case h_2 hfailed => exact (events_reportCommand ..).tail (.start (.inr hfailed))
  case h_3 => exact events_reportCommand ..
  case h_4 => exact events_reportCommand ..

theorem events_commandStop (s : State) : Events s (commandStop s) := by
  unfold commandStop
  split
  case h_1 => exact events_reportCommand ..
  all_goals exact (events_reportCommand ..).tail .stop

theorem events_commandCode (s : State) (v : Word) : Events s (commandCode s v) := by
  unfold commandCode
  split_ifs
  · exact events_commandStart s
  · exact events_commandStop s
  · exact events_reportCommand ..

/-! ### Register writes -/

theorem events_chipCommand (s : State) (v : Word) : Events s (chipCommand s v) := by
  unfold chipCommand
  split
  · exact .single .softReset
  · exact .refl

theorem events_registerWrite (s : State) (offset : Offset) (v : Word) : Events s (registerWrite s offset v) := by
  unfold registerWrite
  split
  case h_1 => exact events_chipCommand s v
  case h_2 => exact .single (.registers (registersOnly_clearSticky s v))
  case h_3 => exact .single (.registers (registersOnly_setIntEnable s v))
  case h_4 => exact .single (.registers (registersOnly_stageAddr s .high v))
  case h_5 => exact .single (.registers (registersOnly_stageAddr s .low v))
  case h_6 => exact .single (.registers ⟨rfl, rfl, rfl, rfl, rfl, rfl, rfl, id⟩)
  case h_7 => exact events_issueCode s v
  case h_8 => exact events_stream s v
  case h_9 => exact .single .popCompletion
  case h_10 => exact .single (.registers (registersOnly_setCqTrigger s v))
  case h_11 => exact .single (.registers (registersOnly_setCqAge s v))
  case h_12 => exact .single .popEvent
  case h_13 => exact .single (.registers (registersOnly_setEqTrigger s v))
  case h_14 => exact .single (.registers (registersOnly_setEqAge s v))
  case h_15 => exact .single (.registers (registersOnly_setThresholds s v))
  case h_16 => exact .single (.registers (registersOnly_setRepeat s v))
  case h_17 => exact .single (.registers (registersOnly_setWinSelect s v))
  case h_18 => exact .single (.registers (registersOnly_setWinCtrl s v))
  case h_19 => exact .single (.registers (registersOnly_setBaseHigh s v))
  case h_20 => exact .single (.registers (registersOnly_onBase s _))
  case h_21 => exact .single (.registers (registersOnly_setRemapHigh s v))
  case h_22 => exact .single (.registers (registersOnly_setRemapLow s v))
  case h_23 => exact .single (.registers (registersOnly_setLinkSelect s v))
  case h_24 => exact events_commandCode s v
  case h_25 => exact events_setLinkConfig s fun hv _ hc => ⟨inUnits_iff.mp hv, hc.2⟩
  case h_26 => exact events_setLinkConfig s fun hv _ ⟨hr, hd, _, hc⟩ => ⟨hr, hd, inUnits_iff.mp hv, hc⟩
  case h_27 => exact events_setLinkConfig s fun hv _ ⟨hr, hd, hp, _, hc⟩ => ⟨hr, hd, hp, inUnits_iff.mp hv, hc⟩
  case h_28 => exact events_setLinkConfig s fun hv _ hc => withLimits_legal hv hc
  case h_29 =>
    exact events_setLinkConfig s fun hv _ ⟨hr, hd, hp, hy, _, hc⟩ => ⟨hr, hd, hp, hy, inUnits_iff.mp hv, hc⟩
  case h_30 =>
    exact events_setLinkConfig s fun hv _ ⟨hr, hd, hp, hy, hl, _, hc⟩ => ⟨hr, hd, hp, hy, hl, inUnits_iff.mp hv, hc⟩
  case h_31 => exact .refl

/-! ### Received frames -/

theorem judging_iff {k : Link} : k.judging = true ↔ k.ctl.state = .training ∨ k.ctl.state = .up := by
  unfold Link.judging
  split <;> simp [*]

theorem receives_goodFrame (k : Link) : Receives k k.goodFrame.rcv := by
  intro h
  obtain ⟨ht, hd, hs, ha, hdup, hl, hp, hb, hc, hj, -⟩ := h
  refine ⟨ht, hd, hs, ha, hdup, hl, hp, hb, ?_, fun hup => ?_, Nat.zero_le _⟩ <;>
    simp only [Link.goodFrame]
  · split
    · exact Nat.zero_le _
    · exact hc
  · rw [if_pos (judging_iff.mpr hup : k.judging = true)]
    exact Nat.zero_le _

theorem receives_hunt (k : Link) : Receives k k.rcv.hunt := by
  intro h
  obtain ⟨ht, hd, hs, ha, hdup, hl, hp, hb, hc, hj, -⟩ := h
  exact ⟨ht, hd, hs, ha, hdup, hl, hp, hb, hc, hj, Nat.zero_le _⟩

theorem event_goodFrame (s : State) (l : LinkId) : Event s (s.onLink l Link.goodFrame) :=
  .received (receives_goodFrame (s.link l))

theorem event_hunting (s : State) (l : LinkId) : Event s (s.onLink l Link.hunting) :=
  .received (receives_hunt (s.link l))

/-- A malformed frame counted below the eighth in a row. -/
theorem receives_countBad {k : Link} (h : k.rcv.consecutiveBad + 1 < Config.consecutiveBadLimit) :
    Receives k k.countBad.rcv := by
  intro hk
  obtain ⟨ht, hd, hs, ha, hdup, hl, hp, -, -, -, hkept⟩ := hk
  simp only [Config.consecutiveBadLimit] at h
  exact ⟨ht, hd, hs, ha, hdup, hl, hp, Nat.min_le_left _ _, by simp only [Link.countBad]; omega,
    fun _ => by simp only [Link.countBad]; omega, hkept⟩

theorem append_kept_length {r : Receiver} (b : Byte) (h : r.kept.length ≤ 9) :
    (r.append b).kept.length ≤ 9 := by
  by_cases hlt : r.kept.length < 9
  · simp [Receiver.append, Config.keptBytes, hlt]
  · simpa [Receiver.append, Config.keptBytes, hlt] using h

theorem take_kept_length {r : Receiver} (b : Byte) (h : r.kept.length ≤ 9) : (r.take b).kept.length ≤ 9 := by
  have hnil : ([] : List Byte).length ≤ 9 := Nat.zero_le _
  unfold Receiver.take
  cases r.framing <;> dsimp only
  case hunting => split_ifs; exacts [hnil, h]
  case inFrame => split_ifs; exacts [hnil, h, h, append_kept_length _ h]
  case escaped => split_ifs; exacts [append_kept_length _ h, append_kept_length _ h, hnil, h]

theorem take_counts (r : Receiver) (b : Byte) :
    (r.take b).consecutiveBad = r.consecutiveBad ∧ (r.take b).badFrames = r.badFrames := by
  unfold Receiver.take
  cases r.framing <;> dsimp only <;> split_ifs <;> exact ⟨rfl, rfl⟩

theorem receives_take (k : Link) (b : Byte) : Receives k (k.rcv.take b) := by
  intro h
  obtain ⟨ht, hd, hs, ha, hdup, hl, hp, hb, hc, hj, hkept⟩ := h
  obtain ⟨hbad, hframes⟩ := take_counts k.rcv b
  exact ⟨ht, hd, hs, ha, hdup, hl, hp, hframes ▸ hb, hbad ▸ hc, fun hup => hbad ▸ hj hup,
    take_kept_length b hkept⟩

theorem events_whileUp {s t : State} {l : LinkId} (h : (s.link l).ctl.state = .up → Events s t) :
    Events s (whileUp s l t) := by
  unfold whileUp
  split
  next hup => exact h hup
  next => exact .refl

theorem ackClass_progress {replay : List ReplayEntry} {n : Seq} {k : Nat} (h : ackClass replay n = .progress k) :
    1 ≤ k ∧ k ≤ replay.length := by
  unfold ackClass at h
  split at h
  · cases h
  dsimp only at h
  split_ifs at h with hzero hle
  cases h
  exact ⟨Nat.one_le_iff_ne_zero.mpr hzero, hle⟩

theorem ackClass_duplicate {replay : List ReplayEntry} {n : Seq} (h : ackClass replay n = .duplicate) :
    replay ≠ [] := by
  rintro rfl
  cases h

theorem events_takeAckp {s : State} {l : LinkId} (n : Seq) (hup : (s.link l).ctl.state = .up) :
    Events s (takeAckp s l n) := by
  unfold takeAckp
  split
  case h_1 hclass =>
    obtain ⟨hn, hle⟩ := ackClass_progress hclass
    exact .single (.ackProgress hup hn hle)
  case h_2 hclass =>
    have hreplay := ackClass_duplicate hclass
    dsimp only
    split
    next hpass =>
      refine .head (.ackDuplicate hup) (.single (.ackPass ?_ ?_ hpass.2)) <;> rw [link_onLink_self]
      · exact hup
      · exact hreplay
    next => exact .single (.ackDuplicate hup)
  case h_3 => exact .single .stale

theorem answeredBy_iff {t : Tag} {l : LinkId} {st : StationId} {b : Byte} :
    t.answeredBy l st b = true ↔ t.gen = genOfByte b ∧ t.link = l ∧ t.station = st := by
  simp [Tag.answeredBy, and_assoc]

theorem events_takeFinal (s : State) (l : LinkId) (st : StationId) (b : Byte) (a : FinalAnswer) :
    Events s (takeFinal s l st b a) := by
  simp only [takeFinal]
  split
  next h =>
    simp only [Bool.and_eq_true, answeredBy_iff] at h
    obtain ⟨⟨⟨-, hlink, -⟩, -⟩, htakes⟩ := h
    exact .single (.final hlink htakes)
  next => exact .single .stale

theorem events_takeRetry (s : State) (l : LinkId) (st : StationId) (b : Byte) : Events s (takeRetry s l st b) := by
  simp only [takeRetry]
  split
  next h =>
    simp only [Bool.and_eq_true, decide_eq_true_eq] at h
    split
    next =>
      exact .single (.counted h.2 ⟨rfl, rfl, rfl, rfl, fun ⟨ha, _, hto, _⟩ => ⟨ha, Nat.min_le_left _ _, hto⟩⟩)
    next => exact .single (.deferred h.2)
  next => exact .single .stale

theorem events_handOn (s : State) (l : LinkId) (f : RxFrame) : Events s (handOn s l f) := by
  cases f with
  | hello st v => exact .single .hello
  | helloAck st v => exact .single .helloAck
  | ackp st b => exact events_whileUp fun hup => events_takeAckp _ hup
  | done st b => exact events_whileUp fun _ => events_takeFinal ..
  | data st b w => exact events_whileUp fun _ => events_takeFinal ..
  | retry st b => exact events_whileUp fun _ => events_takeRetry ..
  | fault st b c => exact events_whileUp fun _ => events_takeFinal ..
  | evt st c p => exact events_whileUp fun hup => .single (.event hup)
  | pause st b => exact events_whileUp fun hup => .single (.paused hup)
  | resume st b =>
    refine events_whileUp fun _ => ?_
    unfold takeResume
    split
    · exact .single .unpaused
    · exact .refl

theorem events_takeGood (s : State) (l : LinkId) (f : RxFrame) : Events s (takeGood s l f) :=
  .head (event_goodFrame s l) (events_handOn ..)

theorem events_takeMalformed (s : State) (l : LinkId) : Events s (takeMalformed s l) := by
  simp only [takeMalformed, link_onLink_self]
  split
  next hjudging =>
    split
    next => exact .single (.malformed hjudging)
    next hlow =>
      refine .head (event_hunting s l) (.single ?_)
      rw [onLink_eq_setLink (s.onLink l Link.hunting)]
      refine .received (receives_countBad ?_)
      rw [link_onLink_self]
      exact Nat.lt_of_not_le hlow
  next => exact .single (event_hunting s l)

theorem events_takeByte (s : State) (l : LinkId) (b : Byte) : Events s (takeByte s l b) := by
  simp only [takeByte]
  split
  · split
    · exact events_takeGood ..
    · exact events_takeMalformed s l
  split
  · exact .single (event_hunting s l)
  · exact .single (.received (receives_take _ b))

/-! ### Expiries and ends of transmissions -/

theorem events_ite {s t : State} {p : Prop} [Decidable p] (h : p → Events s t) :
    Events s (if p then t else s) := by
  split
  next hp => exact h hp
  next => exact .refl

theorem replyDue_await {t : Tag} (h : t.replyDue = true) : t.state = .await := by
  unfold Tag.replyDue at h
  split at h
  next hstate _ => exact hstate
  next => cases h

theorem delayDue_deferred {t : Tag} (h : t.delayDue = true) : t.state = .deferred := by
  unfold Tag.delayDue at h
  split at h
  next hstate _ => exact hstate
  next => cases h

theorem events_replyExpiry {s : State} {i : TagId} (h : (s.tag i).state = .await) :
    Events s (replyExpiry s i) := by
  simp only [replyExpiry]
  split
  next =>
    refine .single (.counted h ⟨rfl, rfl, rfl, rfl, fun ⟨ha, hb, _, hto⟩ => ⟨ha, hb, ?_⟩⟩)
    exact Nat.succ_le_succ (hto (by rw [h]; decide) (by rw [h]; decide))
  next hlimit => exact .single (.resent h (Nat.le_of_not_lt hlimit))

theorem events_endRequest (s : State) (l : LinkId) : Events s (endRequest s l) := by
  unfold endRequest
  split
  next f src htx =>
    split
    next hf => exact .single (.endResend hf htx)
    next hf => exact .single (.endQueued hf htx)
    next => exact .refl
  next => exact .refl
  next => exact .refl

theorem events_endWrite (s : State) (l : LinkId) : Events s (endWrite s l) := by
  unfold endWrite
  split
  next htx => exact .single (.endFirstWr htx)
  next => exact .refl

theorem events_endPassSending (s : State) (l : LinkId) : Events s (endPassSending s l) := by
  unfold endPassSending
  split
  next htx => exact .single (.endPassFrame htx)
  next => exact .refl

theorem events_endControl (s : State) (l : LinkId) : Events s (endControl s l) := by
  unfold endControl
  split
  next htx => exact .single (.freed (.inl ⟨_, htx⟩))
  next => exact .refl

theorem events_endAbort (s : State) (l : LinkId) : Events s (endAbort s l) := by
  unfold endAbort
  split
  next htx => exact .single (.freed (.inr ⟨_, htx⟩))
  next => exact .refl

/-! ### Commands -/

theorem next_of_unlessReset {s s' : State} (h : Events s s') : ∃ t, unlessReset s s' = .next t ∧ Events s t := by
  refine ⟨_, rfl, ?_⟩
  split
  · exact .refl
  · exact h

/-- Every command but the assertion of RESET_N answers a next state, at the end of a chain of events. -/
theorem exec_events {c : Instr} (hc : c ≠ .pinReset) (s : State) : ∃ t, exec c s = .next t ∧ Events s t := by
  cases c with
  | pinReset => exact absurd rfl hc
  | resetRelease => exact ⟨_, rfl, .single .resetRelease⟩
  | issueWrite => exact next_of_unlessReset (events_issue s _)
  | issueWriteConfirmed => exact next_of_unlessReset (events_issue s _)
  | issueRead => exact next_of_unlessReset (events_issue s _)
  | badKind v => exact next_of_unlessReset (events_issueCode s v)
  | streamData w => exact next_of_unlessReset (events_stream s w)
  | raddrWrite half v => exact next_of_unlessReset (.single (.registers (registersOnly_stageAddr s half v)))
  | cqPop v => exact next_of_unlessReset (.single .popCompletion)
  | eqPop v => exact next_of_unlessReset (.single .popEvent)
  | start => exact next_of_unlessReset (events_commandStart s)
  | stop => exact next_of_unlessReset (events_commandStop s)
  | badCommand v => exact next_of_unlessReset (events_commandCode s v)
  | softReset => exact next_of_unlessReset (.single .softReset)
  | intStatusWrite v => exact next_of_unlessReset (.single (.registers (registersOnly_clearSticky s v)))
  | intEnableWrite v => exact next_of_unlessReset (.single (.registers (registersOnly_setIntEnable s v)))
  | cqTriggerWrite v => exact next_of_unlessReset (.single (.registers (registersOnly_setCqTrigger s v)))
  | cqAgeWrite v => exact next_of_unlessReset (.single (.registers (registersOnly_setCqAge s v)))
  | eqTriggerWrite v => exact next_of_unlessReset (.single (.registers (registersOnly_setEqTrigger s v)))
  | eqAgeWrite v => exact next_of_unlessReset (.single (.registers (registersOnly_setEqAge s v)))
  | configWrite offset v => exact next_of_unlessReset (events_registerWrite s offset v)
  | tick => exact next_of_unlessReset (.single .tick)
  | replyTimerExpiry i =>
    exact next_of_unlessReset (events_ite fun h => events_replyExpiry (replyDue_await h))
  | retryDelayExpiry i =>
    exact next_of_unlessReset (events_ite fun h => .single (.readied (delayDue_deferred h)))
  | replayTimerExpiry l => exact next_of_unlessReset (events_ite fun h => .single (.replayExpiry h))
  | pauseHoldExpiry l => exact next_of_unlessReset (events_ite fun _ => .single .unpaused)
  | helloIntervalExpiry l => exact next_of_unlessReset (events_ite fun h => .single (.helloExpiry h))
  | cqAgeExpiry => exact next_of_unlessReset (events_ite fun _ => .single .ageIncrement)
  | eqAgeExpiry => exact next_of_unlessReset (events_ite fun _ => .single .ageIncrement)
  | ageCountIncrement q n => exact next_of_unlessReset (.single .ageIncrement)
  | endOfRequestTransmission l => exact next_of_unlessReset (events_endRequest s l)
  | endOfFirstWrTransmission l => exact next_of_unlessReset (events_endWrite s l)
  | endOfPassFrame l => exact next_of_unlessReset (events_endPassSending s l)
  | endOfControlFrame l => exact next_of_unlessReset (events_endControl s l)
  | abortSequenceEnd l => exact next_of_unlessReset (events_endAbort s l)
  | hello l st v => exact next_of_unlessReset (events_takeGood ..)
  | helloAck l st v => exact next_of_unlessReset (events_takeGood ..)
  | ackp l st b => exact next_of_unlessReset (events_takeGood ..)
  | done l st b => exact next_of_unlessReset (events_takeGood ..)
  | data l st b w => exact next_of_unlessReset (events_takeGood ..)
  | fault l st b c => exact next_of_unlessReset (events_takeGood ..)
  | retry l st b => exact next_of_unlessReset (events_takeGood ..)
  | evt l st c p => exact next_of_unlessReset (events_takeGood ..)
  | pause l st b => exact next_of_unlessReset (events_takeGood ..)
  | resume l st b => exact next_of_unlessReset (events_takeGood ..)
  | malformedFrame l => exact next_of_unlessReset (events_takeMalformed s l)
  | abortedFrame l => exact next_of_unlessReset (.single (event_hunting s l))
  | byteReceived l b => exact next_of_unlessReset (events_takeByte s l b)

end Sys2Proof.Proofs.Inversion
end

section
/-! What every event keeps outside the traffic of tags and links: the host registers, the waiting commands, the host
bus and the event queue. From it: every command is taken (R174), and every step keeps the configuration within its
ranges and the event counts at the numbers of their records (R108). -/

namespace Sys2Proof.Proofs.Registers

open Sys2Proof Sys2Proof.Machine Sys2Proof.Laws Sys2Proof.Proofs.Inversion

/-! ### Changes of the traffic alone -/

/-- A link changes in its traffic alone: its configuration stays legal and its event count as it is. -/
structure LinkTraffic (k k' : Link) : Prop where
  cfg : k.cfg.Legal → k'.cfg.Legal
  count : k'.evs.count = k.evs.count

theorem linkTraffic_of_eq {k k' : Link} (hcfg : k'.cfg = k.cfg) (hevs : k'.evs = k.evs) : LinkTraffic k k' :=
  ⟨fun h => hcfg ▸ h, by rw [hevs]⟩

theorem linkTraffic_refl (k : Link) : LinkTraffic k k := ⟨id, rfl⟩

theorem LinkTraffic.trans {j k m : Link} (h : LinkTraffic j k) (h' : LinkTraffic k m) : LinkTraffic j m :=
  ⟨h'.cfg ∘ h.cfg, h'.count.trans h.count⟩

/-- The state changes in its traffic alone. -/
structure Traffic (s t : State) : Prop where
  inReset : t.inReset = s.inReset
  cqTrigger : t.cqTrigger = s.cqTrigger
  cqAge : t.cqAge = s.cqAge
  eq : t.eq = s.eq
  eqTrigger : t.eqTrigger = s.eqTrigger
  eqAge : t.eqAge = s.eqAge
  highThreshold : t.highThreshold = s.highThreshold
  lowThreshold : t.lowThreshold = s.lowThreshold
  repeatK : t.repeatK = s.repeatK
  windows : t.windows = s.windows
  striped : t.striped = s.striped
  intEnable : t.intEnable = s.intEnable
  bus : t.bus = s.bus
  pending : t.pending = s.pending
  sticky : s.sticky &&& ~~~stickyMask = 0 → t.sticky &&& ~~~stickyMask = 0
  links : ∀ l, LinkTraffic (s.link l) (t.link l)

theorem traffic_refl (s : State) : Traffic s s :=
  ⟨rfl, rfl, rfl, rfl, rfl, rfl, rfl, rfl, rfl, rfl, rfl, rfl, rfl, rfl, id, fun _ => linkTraffic_refl _⟩

theorem Traffic.trans {s t u : State} (h : Traffic s t) (h' : Traffic t u) : Traffic s u where
  inReset := h'.inReset.trans h.inReset
  cqTrigger := h'.cqTrigger.trans h.cqTrigger
  cqAge := h'.cqAge.trans h.cqAge
  eq := h'.eq.trans h.eq
  eqTrigger := h'.eqTrigger.trans h.eqTrigger
  eqAge := h'.eqAge.trans h.eqAge
  highThreshold := h'.highThreshold.trans h.highThreshold
  lowThreshold := h'.lowThreshold.trans h.lowThreshold
  repeatK := h'.repeatK.trans h.repeatK
  windows := h'.windows.trans h.windows
  striped := h'.striped.trans h.striped
  intEnable := h'.intEnable.trans h.intEnable
  bus := h'.bus.trans h.bus
  pending := h'.pending.trans h.pending
  sticky := h'.sticky ∘ h.sticky
  links l := (h.links l).trans (h'.links l)

theorem Traffic.configLegal {s t : State} (h : Traffic s t) (hs : ConfigLegal s) : ConfigLegal t := by
  obtain ⟨hct, hca, het, hea, hhi, hlo, hk, hw, he, hsh, hst, hie, hcfg⟩ := hs
  simp only [ConfigLegal, h.cqTrigger, h.cqAge, h.eqTrigger, h.eqAge, h.highThreshold, h.lowThreshold, h.repeatK,
    h.windows, h.striped, h.intEnable]
  exact ⟨hct, hca, het, hea, hhi, hlo, hk, hw, he, hsh, h.sticky hst, hie, fun l => (h.links l).cfg (hcfg l)⟩

theorem Traffic.eventCounts {s t : State} (h : Traffic s t) (hs : EventCountsAgree s) : EventCountsAgree t := by
  obtain ⟨hlen, hcount⟩ := hs
  simp only [EventCountsAgree, h.eq]
  exact ⟨hlen, fun l => (h.links l).count.trans (hcount l)⟩

/-! ### The operations that are traffic -/

/-- A state that differs in its tags, its completion queue and its free-value counter alone. -/
theorem traffic_of_frame {s t : State} {tags : Vector Tag 32} {cq : List CplRecord} {n : Nat}
    (h : t = { s with tags := tags, cq := cq, freeCount := n, links := t.links })
    (hlinks : ∀ l, LinkTraffic (s.link l) (t.link l)) : Traffic s t := by
  rw [h] at hlinks ⊢
  exact ⟨rfl, rfl, rfl, rfl, rfl, rfl, rfl, rfl, rfl, rfl, rfl, rfl, rfl, rfl, id, hlinks⟩

theorem traffic_setTag (s : State) (i : TagId) (t : Tag) : Traffic s (s.setTag i t) :=
  traffic_of_frame rfl fun _ => linkTraffic_refl _

theorem traffic_setLink {s : State} {l : LinkId} {k : Link} (h : LinkTraffic (s.link l) k) :
    Traffic s (s.setLink l k) := by
  refine traffic_of_frame rfl fun m => ?_
  rw [link_setLink]
  split
  next hlm => exact hlm ▸ h
  next => exact linkTraffic_refl _

theorem traffic_onLink {s : State} {l : LinkId} {f : Link → Link} (h : LinkTraffic (s.link l) (f (s.link l))) :
    Traffic s (s.onLink l f) := traffic_setLink h

theorem traffic_raiseBit (s : State) {bit : Word} (hbit : bit &&& ~~~stickyMask = 0) :
    Traffic s (s.raiseBit bit) :=
  ⟨rfl, rfl, rfl, rfl, rfl, rfl, rfl, rfl, rfl, rfl, rfl, rfl, rfl, rfl, fun h => or_legal h hbit,
    fun _ => linkTraffic_refl _⟩

theorem linkChangeBit_legal (l : LinkId) : linkChangeBit l &&& ~~~stickyMask = 0 := by
  revert l; decide

theorem linkTraffic_pick (tags : Vector Tag 32) (k : Link) : LinkTraffic k (pick tags k) := by
  rw [pick_frame]; exact linkTraffic_of_eq rfl rfl

theorem traffic_refill (s : State) (l : LinkId) : Traffic s (refill s l) := by
  refine traffic_of_frame (refill_frame s l) fun m => ?_
  rw [refill_link]
  split
  next hlm => subst hlm; exact linkTraffic_of_eq rfl rfl
  next => exact linkTraffic_refl _

theorem traffic_schedule (s : State) (l : LinkId) : Traffic s (schedule s l) :=
  (traffic_refill s l).trans (traffic_onLink (linkTraffic_pick _ _))

theorem traffic_completeTag (s : State) (i : TagId) (r : Result) : Traffic s (completeTag s i r) := by
  refine traffic_of_frame (completeTag_frame s i r) fun m => ?_
  rw [completeTag_link]
  split
  next hlm => rw [hlm]; exact linkTraffic_of_eq rfl rfl
  next => exact linkTraffic_refl _

theorem traffic_flush (s : State) (l : LinkId) (status : Status) (keep : Bool) :
    Traffic s (flush s l status keep) := by
  refine traffic_of_frame (flush_frame s l status keep) fun m => ?_
  rw [flush_link]
  split
  next hlm => subst hlm; exact linkTraffic_of_eq rfl rfl
  next => exact linkTraffic_refl _

theorem traffic_nextFree (s : State) : Traffic s s.nextFree := traffic_of_frame rfl fun _ => linkTraffic_refl _

theorem traffic_takeDown (s : State) (l : LinkId) (status : Status) : Traffic s (takeDown s l status) := by
  unfold takeDown
  split
  · exact ((traffic_flush ..).trans (traffic_onLink ⟨id, rfl⟩)).trans (traffic_onLink ⟨id, rfl⟩)
  · exact ((traffic_onLink ⟨id, rfl⟩).trans (traffic_nextFree _)).trans (traffic_onLink ⟨id, rfl⟩)

theorem traffic_enterState (s : State) (l : LinkId) (st : LinkState) : Traffic s (enterState s l st) :=
  (traffic_onLink ⟨id, rfl⟩).trans (traffic_raiseBit _ (linkChangeBit_legal l))

theorem traffic_failLink (s : State) (l : LinkId) (cause : FailCause) : Traffic s (failLink s l cause) :=
  ((traffic_takeDown ..).trans (traffic_onLink ⟨id, rfl⟩)).trans (traffic_enterState ..)

theorem linkTraffic_enterUp (low : Nat) (k : Link) : LinkTraffic k (k.enterUp low) := by
  simp only [Link.enterUp, Link.enterUpEvents]
  split <;> exact ⟨id, rfl⟩

theorem traffic_enterUp (s : State) (l : LinkId) : Traffic s (enterUp s l) :=
  ((traffic_onLink (linkTraffic_enterUp _ _)).trans (traffic_enterState ..)).trans (traffic_schedule ..)

theorem traffic_askPass (s : State) (l : LinkId) : Traffic s (askPass s l) := by
  simp only [askPass]
  split
  · exact (traffic_onLink ⟨id, rfl⟩).trans (traffic_failLink ..)
  · exact (traffic_onLink ⟨id, rfl⟩).trans (traffic_onLink ⟨id, rfl⟩)

theorem traffic_endPass (s : State) (l : LinkId) : Traffic s (endPass s l) := by
  simp only [endPass]
  split
  · exact traffic_onLink ⟨id, rfl⟩
  split
  · exact (traffic_onLink ⟨id, rfl⟩).trans (traffic_askPass ..)
  · exact (traffic_onLink ⟨id, rfl⟩).trans (traffic_onLink ⟨id, rfl⟩)

theorem traffic_endPassIfOver (s : State) (l : LinkId) : Traffic s (endPassIfOver s l) := by
  unfold endPassIfOver
  split
  · exact traffic_endPass s l
  · exact traffic_refl s

theorem traffic_takeHello (s : State) (l : LinkId) : Traffic s (takeHello s l) := by
  unfold takeHello
  split
  · exact traffic_refl s
  · exact traffic_refl s
  · exact (traffic_onLink ⟨id, rfl⟩).trans (traffic_enterUp ..)
  · exact ((traffic_flush ..).trans (traffic_onLink ⟨id, rfl⟩)).trans (traffic_enterUp ..)

theorem traffic_takeHelloAck (s : State) (l : LinkId) : Traffic s (takeHelloAck s l) := by
  unfold takeHelloAck
  split
  · exact traffic_refl s
  · exact traffic_refl s
  · exact traffic_enterUp s l
  · exact traffic_onLink ⟨id, rfl⟩

theorem traffic_start (s : State) (l : LinkId) : Traffic s (startLink s l) := by
  refine ((traffic_onLink ⟨fun h => ?_, rfl⟩).trans (traffic_enterState ..)).trans (traffic_schedule ..)
  obtain ⟨hrate, -, hrest⟩ := h
  exact ⟨hrate, hrate, hrest⟩

theorem traffic_endQueued (s : State) (l : LinkId) (i : TagId) (g : Gen) (held : Bool) :
    Traffic s (endQueued s l i g held) := by
  simp only [endQueued]
  split
  · exact (((traffic_onLink ⟨id, rfl⟩).trans (traffic_setTag ..)).trans (traffic_onLink ⟨id, rfl⟩)).trans
      (traffic_schedule ..)
  · exact (traffic_onLink ⟨id, rfl⟩).trans (traffic_schedule ..)

theorem traffic_endResend (s : State) (l : LinkId) (i : TagId) (g : Gen) : Traffic s (endResend s l i g) := by
  simp only [endResend]
  split
  · exact ((traffic_onLink ⟨id, rfl⟩).trans (traffic_setTag ..)).trans (traffic_schedule ..)
  · exact (traffic_onLink ⟨id, rfl⟩).trans (traffic_schedule ..)

theorem traffic_endFirstWr (s : State) (l : LinkId) (seq : Seq) : Traffic s (endFirstWr s l seq) := by
  simp only [endFirstWr]
  split
  · exact ((traffic_onLink ⟨id, rfl⟩).trans (traffic_onLink ⟨id, rfl⟩)).trans (traffic_schedule ..)
  · exact (traffic_onLink ⟨id, rfl⟩).trans (traffic_schedule ..)
  · exact (traffic_onLink ⟨id, rfl⟩).trans (traffic_schedule ..)

theorem traffic_popCompletion (s : State) : Traffic s (popCompletion s) := by
  unfold popCompletion
  split
  · exact traffic_refl s
  · exact traffic_of_frame rfl fun _ => linkTraffic_refl _

/-! ### What an event can do to the registers -/

theorem tick_link (s : State) (l : LinkId) : (tick s).link l = (s.link l).tick := getElem_mapTable ..

theorem softReset_link (s : State) (l : LinkId) :
    (softReset s).link l = (s.link l).softReset s.freeCount l := by
  simp [State.link, softReset]

theorem eventStored_cfg (high interval : Nat) (k : Link) : (k.eventStored high interval).cfg = k.cfg := by
  simp only [Link.eventStored, Link.repeatAdvance, Link.entryTest, Link.askPause]
  split_ifs <;> rfl

theorem eventStored_count (high interval : Nat) (k : Link) :
    (k.eventStored high interval).evs.count = k.evs.count + 1 := by
  simp only [Link.eventStored, Link.repeatAdvance, Link.entryTest, Link.askPause]
  split_ifs <;> rfl

theorem linkTraffic_eventDropped (interval : Nat) (k : Link) : LinkTraffic k (k.eventDropped interval) := by
  simp only [Link.eventDropped, Link.repeatAdvance, Link.askPause]
  split_ifs <;> exact ⟨id, rfl⟩

theorem eventPopped_cfg (low : Nat) (k : Link) : (k.eventPopped low).cfg = k.cfg := by
  simp only [Link.eventPopped]
  split <;> rfl

theorem eventPopped_count (low : Nat) (k : Link) : (k.eventPopped low).evs.count = k.evs.count - 1 := by
  simp only [Link.eventPopped]
  split <;> rfl

/-- What every event keeps of the registers: the waiting commands, the host bus, the release of RESET_N, and the two
invariants that need no other. -/
structure Keeps (s t : State) : Prop where
  pending : t.pending = s.pending
  bus : t.bus = s.bus
  running : s.inReset = false → t.inReset = false
  config : ConfigLegal s → ConfigLegal t
  events : EventCountsAgree s → EventCountsAgree t

theorem keeps_refl (s : State) : Keeps s s := ⟨rfl, rfl, id, id, id⟩

theorem Keeps.trans {s t u : State} (h : Keeps s t) (h' : Keeps t u) : Keeps s u :=
  ⟨h'.pending.trans h.pending, h'.bus.trans h.bus, h'.running ∘ h.running, h'.config ∘ h.config, h'.events ∘ h.events⟩

theorem Traffic.keeps {s t : State} (h : Traffic s t) : Keeps s t :=
  ⟨h.pending, h.bus, fun hr => h.inReset.trans hr, h.configLegal, h.eventCounts⟩

theorem configLegal_of_links {s t : State} {eq : List EvtRecord}
    (h : t = { s with eq := eq, links := t.links })
    (hcfg : ∀ l, (s.link l).cfg.Legal → (t.link l).cfg.Legal) (hs : ConfigLegal s) : ConfigLegal t := by
  rw [h] at hcfg ⊢
  obtain ⟨hct, hca, het, hea, hhi, hlo, hk, hw, he, hsh, hst, hie, hlegal⟩ := hs
  exact ⟨hct, hca, het, hea, hhi, hlo, hk, hw, he, hsh, hst, hie, fun l => hcfg l (hlegal l)⟩

theorem keeps_registers {s t : State} (h : RegistersOnly s t) : Keeps s t := by
  refine ⟨h.pending, h.bus, fun hr => h.inReset.trans hr, h.legal, fun hs => ?_⟩
  simp only [EventCountsAgree, State.link, h.eq, h.links]
  exact hs

theorem keeps_softReset (s : State) : Keeps s (softReset s) := by
  refine ⟨rfl, rfl, id, fun h => ?_, fun _ => ⟨Nat.zero_le _, fun l => ?_⟩⟩
  · obtain ⟨hct, hca, het, hea, hhi, hlo, hk, hw, he, hsh, hst, hie, hcfg⟩ := h
    refine ⟨hct, hca, het, hea, hhi, hlo, hk, hw, he, hsh, BitVec.zero_and, hie, fun l => ?_⟩
    rw [softReset_link]
    exact hcfg l
  · rw [softReset_link]
    rfl

theorem keeps_linkConfig {s : State} {l : LinkId} {c : LinkConfig} (h : (s.link l).cfg.Legal → c.Legal) :
    Keeps s (s.setLink l { s.link l with cfg := c }) :=
  (traffic_setLink (k := { s.link l with cfg := c }) ⟨h, rfl⟩).keeps

theorem keeps_received (s : State) (l : LinkId) (r : Receiver) :
    Keeps s (s.setLink l { s.link l with rcv := r }) :=
  (traffic_setLink (k := { s.link l with rcv := r }) ⟨id, rfl⟩).keeps

theorem keeps_tick (s : State) : Keeps s (tick s) := by
  refine ⟨rfl, rfl, id, fun h => ?_, fun ⟨hlen, hcount⟩ => ⟨?_, fun l => ?_⟩⟩
  · obtain ⟨hct, hca, het, hea, hhi, hlo, hk, hw, he, hsh, hst, hie, hcfg⟩ := h
    refine ⟨hct, hca, het, hea, hhi, hlo, hk, hw, he, hsh, hst, hie, fun l => ?_⟩
    rw [tick_link]
    exact hcfg l
  · simpa [tick] using hlen
  · rw [tick_link]
    refine (hcount l).trans ?_
    simp [tick, List.countP_map, Function.comp_def]

/-- An age increment leaves the link of every event record. -/
theorem countP_modify_age (q : List EvtRecord) (n : Nat) (f : EvtRecord → EvtRecord)
    (hf : ∀ r, (f r).link = r.link) (l : LinkId) :
    (q.modify n f).countP (fun r => decide (r.link = l)) = q.countP (fun r => decide (r.link = l)) := by
  induction q generalizing n with
  | nil => cases n <;> rfl
  | cons r rest ih =>
    cases n with
    | zero => simp [List.countP_cons, hf]
    | succ n => simp [List.countP_cons, ih]

theorem keeps_ageIncrement (s : State) (q : AgedQueue) (n : Nat) : Keeps s (ageIncrement s q n) := by
  cases q with
  | completion => exact ⟨rfl, rfl, id, id, id⟩
  | event =>
    refine ⟨rfl, rfl, id, id, fun ⟨hlen, hcount⟩ => ⟨?_, fun l => (hcount l).trans ?_⟩⟩
    · simpa [ageIncrement] using hlen
    · refine (countP_modify_age s.eq n _ (fun r => ?_) l).symm
      split <;> rfl

theorem keeps_popEvent (s : State) : Keeps s (popEvent s) := by
  unfold popEvent
  split
  · exact keeps_refl s
  next r rest heq =>
    refine Keeps.trans ?_ (traffic_schedule _ _).keeps
    refine ⟨rfl, rfl, id, configLegal_of_links (eq := rest) rfl fun l h => ?_, fun ⟨hlen, hcount⟩ => ⟨?_, fun l => ?_⟩⟩
    · rw [link_onLink]
      split
      next hl => rw [eventPopped_cfg]; exact hl ▸ h
      next => exact h
    · rw [heq] at hlen
      exact Nat.le_of_succ_le hlen
    · have hl : (s.link l).evs.count = (r :: rest).countP (fun r => decide (r.link = l)) := heq ▸ hcount l
      rw [List.countP_cons] at hl
      rw [link_onLink]
      split
      next hrl =>
        rw [eventPopped_count]
        show (s.link r.link).evs.count - 1 = _
        rw [hrl, hl]
        simp [hrl]
      next hrl => simpa [hrl, State.link] using hl

theorem keeps_takeEvent (s : State) (l : LinkId) (st : StationId) (code : Byte) (payload : Word) :
    Keeps s (takeEvent s l st code payload) := by
  simp only [takeEvent]
  split
  next hroom =>
    refine Keeps.trans ?_ (traffic_schedule _ _).keeps
    refine ⟨rfl, rfl, id, configLegal_of_links (eq := s.eq ++ [eventRecord s l st code payload]) rfl fun m h => ?_,
      fun ⟨hlen, hcount⟩ => ⟨?_, fun m => ?_⟩⟩
    · rw [link_onLink]
      split
      next hlm => rw [eventStored_cfg]; exact hlm ▸ h
      next => exact h
    · rw [onLink_eq, List.length_append]
      exact Nat.succ_le_of_lt hroom
    · have hm : (s.link m).evs.count = s.eq.countP (fun r => decide (r.link = m)) := hcount m
      rw [link_onLink, onLink_eq, List.countP_append, List.countP_singleton, ← hm]
      split
      next hlm =>
        rw [eventStored_count, hlm]
        simp [eventRecord, State.link]
      next hlm => simp [eventRecord, hlm, State.link]
  next =>
    exact (((traffic_raiseBit s (by decide)).trans (traffic_onLink (linkTraffic_eventDropped _ _))).trans
      (traffic_schedule ..)).keeps

theorem event_keeps {s t : State} (h : Event s t) : Keeps s t := by
  cases h with
  | registers h => exact keeps_registers h
  | resetRelease => exact ⟨rfl, rfl, fun _ => rfl, id, id⟩
  | softReset => exact keeps_softReset s
  | linkConfig h => exact keeps_linkConfig h
  | received h => exact keeps_received ..
  | stale => exact (traffic_onLink ⟨id, rfl⟩).keeps
  | tick => exact keeps_tick s
  | ageIncrement => exact keeps_ageIncrement ..
  | popCompletion => exact (traffic_popCompletion s).keeps
  | popEvent => exact keeps_popEvent s
  | posted hup hslot => exact ((traffic_onLink ⟨id, rfl⟩).trans (traffic_schedule ..)).keeps
  | tagged hup hslot hfree =>
    exact (((traffic_setTag ..).trans (traffic_onLink ⟨id, rfl⟩)).trans (traffic_schedule ..)).keeps
  | start h => exact (traffic_start ..).keeps
  | stop =>
    exact (((traffic_takeDown ..).trans (traffic_onLink ⟨id, rfl⟩)).trans (traffic_enterState ..)).keeps
  | counted hstate h => exact ((traffic_setTag ..).trans (traffic_completeTag ..)).keeps
  | resent hstate hlimit =>
    exact (((traffic_setTag ..).trans (traffic_onLink ⟨id, rfl⟩)).trans (traffic_schedule ..)).keeps
  | readied hstate =>
    exact (((traffic_setTag ..).trans (traffic_onLink ⟨id, rfl⟩)).trans (traffic_schedule ..)).keeps
  | deferred hstate => exact (traffic_setTag ..).keeps
  | final hlink htakes => exact ((traffic_completeTag ..).trans (traffic_schedule ..)).keeps
  | paused hup => exact (traffic_onLink ⟨id, rfl⟩).keeps
  | unpaused => exact ((traffic_onLink ⟨id, rfl⟩).trans (traffic_schedule ..)).keeps
  | event hup => exact keeps_takeEvent ..
  | helloExpiry h =>
    unfold helloExpiry
    split
    · exact ((traffic_onLink ⟨id, rfl⟩).trans (traffic_schedule ..)).keeps
    · exact (traffic_failLink ..).keeps
  | malformed h =>
    exact (((traffic_onLink ⟨id, rfl⟩).trans (traffic_onLink ⟨id, rfl⟩)).trans (traffic_failLink ..)).keeps
  | hello => exact (traffic_takeHello ..).keeps
  | helloAck => exact (traffic_takeHelloAck ..).keeps
  | ackProgress hup hn hle =>
    exact (((traffic_onLink ⟨id, rfl⟩).trans (traffic_endPassIfOver ..)).trans (traffic_schedule ..)).keeps
  | ackDuplicate hup => exact (traffic_onLink ⟨id, rfl⟩).keeps
  | ackPass hup hreplay hpass => exact ((traffic_askPass ..).trans (traffic_schedule ..)).keeps
  | replayExpiry h =>
    exact (((traffic_onLink ⟨id, rfl⟩).trans (traffic_askPass ..)).trans (traffic_schedule ..)).keeps
  | endResend hf htx => exact (traffic_endResend ..).keeps
  | endQueued hf htx => exact (traffic_endQueued ..).keeps
  | endFirstWr htx => exact (traffic_endFirstWr ..).keeps
  | endPassFrame htx =>
    exact (((traffic_onLink ⟨id, rfl⟩).trans (traffic_endPassIfOver ..)).trans (traffic_schedule ..)).keeps
  | freed htx => exact ((traffic_onLink ⟨id, rfl⟩).trans (traffic_schedule ..)).keeps

theorem events_keep {s t : State} (h : Events s t) : Keeps s t := by
  induction h with
  | refl => exact keeps_refl s
  | tail _ hlast ih => exact ih.trans (event_keeps hlast)

/-! ### The statements -/

/-- A step is an empty queue, an assertion of RESET_N, or a chain of events from the state with the rest of the
queue. -/
theorem step_cases {s t : State} (h : step s = .next t) :
    t = s ∨ (∃ rest, t = pinReset { s with pending := rest }) ∨ ∃ rest, Events { s with pending := rest } t := by
  unfold step at h
  split at h
  · cases h; exact .inl rfl
  next c rest _ =>
    by_cases hc : c = .pinReset
    · subst hc; cases h; exact .inr (.inl ⟨rest, rfl⟩)
    · obtain ⟨u, hexec, hevents⟩ := exec_events hc { s with pending := rest }
      cases hexec.symm.trans h
      exact .inr (.inr ⟨rest, hevents⟩)

/-- Settles O1. -/
theorem stepRunsTheFrontCommand : Obligations.StepRunsTheFrontCommand := by
  refine ⟨fun c rest s => rfl, fun s h => ?_⟩
  simp only [step, h]

/-- Settles O2: an assertion of RESET_N answers at once, and every other command is a chain of events. -/
theorem everyCommandIsTaken : Obligations.EveryCommandIsTaken := by
  intro c s
  by_cases hc : c = .pinReset
  · subst hc
    exact ⟨pinReset s, rfl, rfl, rfl⟩
  · obtain ⟨t, hexec, hevents⟩ := exec_events hc s
    rw [if_neg hc]
    exact ⟨t, hexec, (events_keep hevents).pending, (events_keep hevents).bus⟩

theorem pinReset_configLegal (s : State) : ConfigLegal (pinReset s) := by
  have h : ConfigLegal State.reset := by decide
  exact h

theorem pinReset_eventCounts (s : State) : EventCountsAgree (pinReset s) := by
  have h : EventCountsAgree State.reset := by decide
  exact h

/-- Settles O8: the pin reset sets legal values, and every event keeps them. -/
theorem stepKeepsTheConfigurationLegal : Obligations.StepKeepsTheConfigurationLegal := by
  intro s t hs hstep
  obtain rfl | ⟨rest, rfl⟩ | ⟨rest, hevents⟩ := step_cases hstep
  · exact hs
  · exact pinReset_configLegal _
  · exact (events_keep hevents).config hs

/-- Settles O9: the pin reset empties the queue, and every event keeps the counts at the numbers of the records. -/
theorem stepKeepsTheEventCounts : Obligations.StepKeepsTheEventCounts := by
  intro s t hs hstep
  obtain rfl | ⟨rest, rfl⟩ | ⟨rest, hevents⟩ := step_cases hstep
  · exact hs
  · exact pinReset_eventCounts _
  · exact (events_keep hevents).events hs

end Sys2Proof.Proofs.Registers
end

section
/-! What going down, failing and coming up leave of a link, of its tags and of the completion queue, field by field. -/

namespace Sys2Proof.Proofs.LinkStates

open Sys2Proof Sys2Proof.Machine Sys2Proof.Laws

/-- A link as `takeDown` leaves it. -/
def wentDown (n : Nat) (l : LinkId) (k : Link) : Link :=
  let base : Link := if k.ctl.state = .up
    then { k.flushed n l false with evs := k.evs.leaveUp } else k.abort n l
  { base with
    ctl := { base.ctl with helloTimer := none }
    sch := { base.sch with helloDue := false, helloAckPending := false } }

theorem takeDown_link (s : State) (l m : LinkId) (status : Status) :
    (takeDown s l status).link m = if l = m then wentDown s.freeCount l (s.link l) else s.link m := by
  by_cases hup : (s.link l).ctl.state = .up
  · rw [takeDown_of_up s l status hup, link_onLink, flush_link, if_pos rfl, flush_link]
    by_cases hlm : l = m
    · rw [if_pos hlm, if_pos hlm, wentDown, if_pos hup]; rfl
    · rw [if_neg hlm, if_neg hlm, if_neg hlm]
  · rw [takeDown_of_not_up s l status hup, link_onLink, wentDown, if_neg hup]
    rfl

theorem takeDown_tag (s : State) (l : LinkId) (status : Status) (i : TagId) :
    (takeDown s l status).tag i =
      if (s.link l).ctl.state = .up then (s.tag i).flushedOn l status else s.tag i := by
  by_cases hup : (s.link l).ctl.state = .up
  · rw [takeDown_of_up s l status hup, tag_onLink, flush_tag, if_pos hup]
  · rw [takeDown_of_not_up s l status hup, if_neg hup]; rfl

theorem takeDown_cq (s : State) (l : LinkId) (status : Status) :
    (takeDown s l status).cq = if (s.link l).ctl.state = .up
      then s.cq ++ (flushTags s l).map (fun i => recordOf i (s.tag i) (plainResult status)) else s.cq := by
  by_cases hup : (s.link l).ctl.state = .up
  · rw [takeDown_of_up s l status hup, if_pos hup]; rfl
  · rw [takeDown_of_not_up s l status hup, if_neg hup]; rfl

/-! ### Failure and STOP -/

/-- A link as its failure leaves it. -/
def failedLink (n : Nat) (l : LinkId) (cause : FailCause) (k : Link) : Link :=
  { wentDown n l k with ctl := { (wentDown n l k).ctl with cause := cause, state := .failed } }

theorem failLink_link (s : State) (l m : LinkId) (cause : FailCause) :
    (failLink s l cause).link m = if l = m then failedLink s.freeCount l cause (s.link l) else s.link m := by
  rw [failLink_eq, link_raiseBit, link_onLink, takeDown_link, if_pos rfl, takeDown_link]
  by_cases hlm : l = m
  · rw [if_pos hlm, if_pos hlm]; rfl
  · rw [if_neg hlm, if_neg hlm, if_neg hlm]

theorem failLink_tag (s : State) (l : LinkId) (cause : FailCause) (i : TagId) :
    (failLink s l cause).tag i =
      if (s.link l).ctl.state = .up then (s.tag i).flushedOn l .linkDown else s.tag i := by
  rw [failLink_eq, tag_raiseBit, tag_onLink, takeDown_tag]

theorem failLink_cq (s : State) (l : LinkId) (cause : FailCause) :
    (failLink s l cause).cq = (takeDown s l .linkDown).cq := by
  rw [failLink_eq]; rfl

/-- A link as STOP leaves it. -/
def stoppedLink (n : Nat) (l : LinkId) (k : Link) : Link :=
  { wentDown n l k with
    ctl := { (wentDown n l k).ctl with state := .off }
    sch := { (wentDown n l k).sch with pendingPause := .none, lastPause := .none } }

theorem stopLink_eq (s : State) (l : LinkId) :
    stopLink s l = ((takeDown s l .linkStopped).onLink l (fun k => { k with
      ctl := { k.ctl with state := .off }
      sch := { k.sch with pendingPause := .none, lastPause := .none } })).raiseBit (linkChangeBit l) := by
  simp [stopLink, enterState]

theorem stopLink_link (s : State) (l m : LinkId) :
    (stopLink s l).link m = if l = m then stoppedLink s.freeCount l (s.link l) else s.link m := by
  rw [stopLink_eq, link_raiseBit, link_onLink, takeDown_link, if_pos rfl, takeDown_link]
  by_cases hlm : l = m
  · rw [if_pos hlm, if_pos hlm]; rfl
  · rw [if_neg hlm, if_neg hlm, if_neg hlm]

theorem stopLink_cq (s : State) (l : LinkId) : (stopLink s l).cq = (takeDown s l .linkStopped).cq := by
  rw [stopLink_eq]; rfl

/-! ### Entry into UP -/

/-- A link as its entry into UP leaves it, before the pick. -/
def cameUp (low : Nat) (k : Link) : Link :=
  { k.enterUp low with ctl := { (k.enterUp low).ctl with state := .up } }

theorem enterUp_eq (s : State) (l : LinkId) :
    enterUp s l = schedule ((s.onLink l (cameUp s.lowThreshold)).raiseBit (linkChangeBit l)) l := by
  simp only [enterUp, enterState, onLink_onLink]; rfl

theorem startLink_eq (s : State) (l : LinkId) :
    startLink s l = schedule ((s.onLink l (fun k => { k.started with
      ctl := { k.started.ctl with state := .training } })).raiseBit (linkChangeBit l)) l := by
  simp only [startLink, enterState, onLink_onLink]

end Sys2Proof.Proofs.LinkStates
end

section
/-! Two invariants of a link that need no other: the station ordering condition (R35) and the pending pause frames
(R120). Both are kept by every operation on a link. -/

namespace Sys2Proof.Proofs.LineAndPause

open Sys2Proof Sys2Proof.Machine Sys2Proof.Laws Sys2Proof.Proofs.Inversion Sys2Proof.Proofs.Registers
  Sys2Proof.Proofs.LinkStates

/-! ### The station of the request frame on a line (R35) -/

/-- The station of an RD or WRC frame on the line. -/
def lineStation : Transmitter → Option StationId
  | .sending (.rd _ _ st _) _ => some st
  | .sending (.wrc _ _ st _ _) _ => some st
  | _ => none

theorem lineStation_eq_some {tx : Transmitter} {st : StationId} : lineStation tx = some st ↔
    ∃ src i g a, tx = .sending (.rd i g st a) src ∨ ∃ d, tx = .sending (.wrc i g st a d) src := by
  constructor
  · intro h
    unfold lineStation at h
    split at h
    · cases h; exact ⟨_, _, _, _, .inl rfl⟩
    · cases h; exact ⟨_, _, _, _, .inr ⟨_, rfl⟩⟩
    · cases h
  · rintro ⟨src, i, g, a, rfl | ⟨d, rfl⟩⟩ <;> rfl

theorem orderKept_iff {k : Link} : k.OrderKept ↔
    ∀ st, lineStation k.sch.tx = some st → ∀ e ∈ k.pst.replay, e.write.station ≠ st := by
  simp only [Link.OrderKept, lineStation_eq_some]
  exact ⟨fun h st ⟨src, i, g, a, htx⟩ => h src i g st a htx, fun h src i g st a htx => h st ⟨src, i, g, a, htx⟩⟩

/-- No request frame for another station comes on the line, and no posted write joins the replay list while one is
there. -/
def LineKept (k k' : Link) : Prop :=
  lineStation k'.sch.tx = none ∨
    lineStation k'.sch.tx = lineStation k.sch.tx ∧ ∀ e ∈ k'.pst.replay, e ∈ k.pst.replay

theorem LineKept.orderKept {k k' : Link} (h : LineKept k k') (hk : k.OrderKept) : k'.OrderKept := by
  rw [orderKept_iff] at hk ⊢
  intro st hst e he
  obtain hnone | ⟨hsame, hsub⟩ := h
  · rw [hnone] at hst; cases hst
  · exact hk st (hsame ▸ hst) e (hsub e he)

theorem orderKept_of_no_station {k : Link} (h : lineStation k.sch.tx = none) : k.OrderKept :=
  orderKept_iff.mpr fun _ hst => nomatch h.symm.trans hst

theorem lineKept_of_eq {k k' : Link} (htx : k'.sch.tx = k.sch.tx) (hpst : k'.pst.replay = k.pst.replay) :
    LineKept k k' := .inr ⟨by rw [htx], fun e he => hpst ▸ he⟩

theorem lineStation_abortTx (n : Nat) (l : LinkId) (tx : Transmitter) : lineStation (abortTx n l tx) = none := by
  cases tx <;> rfl

theorem lineStation_dropTag (i : TagId) (k : Link) :
    lineStation (k.dropTag i).sch.tx = lineStation k.sch.tx := by
  simp only [Link.dropTag]
  split
  next f held htx => rw [htx]; cases f <;> rfl
  next => rfl

theorem lineStation_requestFrame (i : TagId) (t : Tag) (src : Source) :
    lineStation (.sending (requestFrame i t) src) = some t.station := by
  unfold requestFrame
  cases t.kind <;> rfl

/-! ### What an operation on a link keeps -/

/-- A link changes so that both invariants stay. -/
structure LineStep (k k' : Link) : Prop where
  order : k.OrderKept → k'.OrderKept
  resume : k.ResumeFollowsPause → k'.ResumeFollowsPause

theorem lineStep_refl (k : Link) : LineStep k k := ⟨id, id⟩

theorem LineStep.trans {j k m : Link} (h : LineStep j k) (h' : LineStep k m) : LineStep j m :=
  ⟨h'.order ∘ h.order, h'.resume ∘ h.resume⟩

/-- An operation that leaves the state of the link and its pause frames alone. -/
theorem lineStep_of_same {k k' : Link} (hline : LineKept k k') (hstate : k'.ctl.state = k.ctl.state)
    (hpending : k'.sch.pendingPause = k.sch.pendingPause) (hlast : k'.sch.lastPause = k.sch.lastPause) :
    LineStep k k' := by
  refine ⟨hline.orderKept, fun h => ?_⟩
  simp only [Link.ResumeFollowsPause, hstate, hpending, hlast]
  exact h

/-- An operation on neither the line, the replay list, the state nor the pause frames of the link. -/
theorem lineStep_of_frame {k k' : Link} (htx : k'.sch.tx = k.sch.tx) (hreplay : k'.pst.replay = k.pst.replay)
    (hstate : k'.ctl.state = k.ctl.state) (hpending : k'.sch.pendingPause = k.sch.pendingPause)
    (hlast : k'.sch.lastPause = k.sch.lastPause) : LineStep k k' :=
  lineStep_of_same (lineKept_of_eq htx hreplay) hstate hpending hlast

/-- With no pause frame pending, nothing follows one. -/
theorem resume_of_none {k : Link} (h : k.sch.pendingPause = .none) : k.ResumeFollowsPause :=
  ⟨fun hr => PauseSlot.noConfusion (h.symm.trans hr), fun _ => h⟩

theorem resume_of_pause {k : Link} (hup : k.ctl.state = .up) (h : k.sch.pendingPause = .pause) :
    k.ResumeFollowsPause :=
  ⟨fun hr => PauseSlot.noConfusion (h.symm.trans hr), fun hne => absurd hup hne⟩

theorem lineStep_askPause {k : Link} (hup : k.ctl.state = .up) : LineStep k k.askPause :=
  ⟨LineKept.orderKept (lineKept_of_eq rfl rfl), fun _ => resume_of_pause hup rfl⟩

theorem resumeOutcome_eq_resume {pending last : PauseSlot} (h : pending = .resume → last = .pause)
    (hr : resumeOutcome pending last = .resume) : last = .pause := by
  cases pending <;> cases last <;> simp_all [resumeOutcome]

theorem lineStep_askResume {k : Link} (hup : k.ctl.state = .up) : LineStep k k.askResume :=
  ⟨LineKept.orderKept (lineKept_of_eq rfl rfl),
    fun h => ⟨resumeOutcome_eq_resume h.1, fun hne => absurd hup hne⟩⟩

theorem lineStep_txFree (k : Link) : LineStep k k.txFree := lineStep_of_same (.inl rfl) rfl rfl rfl

theorem lineStep_dropTag (i : TagId) (k : Link) : LineStep k (k.dropTag i) :=
  lineStep_of_same (.inr ⟨lineStation_dropTag i k, fun _ he => he⟩) rfl rfl rfl

/-! ### The pick -/

theorem orderKept_sent_request {k : Link} {i : TagId} {t : Tag} {src : Source} {resend : List TagId}
    (h : k.holdsBack t.station = false) :
    Link.OrderKept { k with sch := { k.sch with resend := resend, tx := .sending (requestFrame i t) src } } := by
  rw [orderKept_iff]
  intro st hst e he hstation
  rw [lineStation_requestFrame] at hst
  cases hst
  have hback : k.holdsBack t.station = true := LinkScheduling.holdsBack_iff.mpr ⟨e, he, hstation⟩
  exact Bool.noConfusion (h.symm.trans hback)

theorem resendChoice_holdsBack {tags : Vector Tag 32} {k : Link} {i : TagId} (h : resendChoice tags k = some i) :
    k.holdsBack tags[i].station = false := by
  simpa using List.find?_some h

theorem lineStep_pickTraffic (tags : Vector Tag 32) (k : Link) : LineStep k (pickTraffic tags k) := by
  unfold pickTraffic
  split
  next => exact lineStep_of_same (.inl rfl) rfl rfl rfl
  split
  next i hchoice =>
    exact ⟨fun _ => orderKept_sent_request (resendChoice_holdsBack hchoice), id⟩
  split
  next f hhead =>
    refine ⟨fun _ => ?_, id⟩
    unfold headFrame at hhead
    split at hhead
    · cases hhead
    · split at hhead
      · cases hhead
        exact orderKept_of_no_station rfl
      · cases hhead
    · split at hhead
      · cases hhead
      next hback =>
        cases hhead
        exact orderKept_sent_request (Bool.eq_false_iff.mpr hback)
  next => exact lineStep_refl k

theorem lineStep_pickUp (tags : Vector Tag 32) (k : Link) :
    LineStep k (pickUp tags k) := by
  unfold pickUp
  split
  next => exact lineStep_of_same (.inl rfl) rfl rfl rfl
  split
  next => exact ⟨fun _ => orderKept_of_no_station rfl, fun _ => resume_of_none rfl⟩
  next => exact ⟨fun _ => orderKept_of_no_station rfl, fun _ => resume_of_none rfl⟩
  split
  next => exact lineStep_refl k
  next => exact lineStep_pickTraffic tags k

theorem lineStep_pick (tags : Vector Tag 32) (k : Link) : LineStep k (pick tags k) := by
  unfold pick
  split
  next =>
    split
    next => exact lineStep_pickUp tags k
    next =>
      unfold pickTraining
      split
      · exact lineStep_of_same (.inl rfl) rfl rfl rfl
      · exact lineStep_refl k
    next => exact lineStep_refl k
    next => exact lineStep_refl k
  next => exact lineStep_refl k

/-! ### What an operation on the state keeps -/

/-- Every link changes so that both invariants stay. -/
structure LineSteps (s t : State) : Prop where
  link : ∀ l, LineStep (s.link l) (t.link l)

theorem lineSteps_refl (s : State) : LineSteps s s := ⟨fun _ => lineStep_refl _⟩

theorem LineSteps.trans {s t u : State} (h : LineSteps s t) (h' : LineSteps t u) : LineSteps s u :=
  ⟨fun l => (h.link l).trans (h'.link l)⟩

theorem lineSteps_of_links {s t : State} (h : t.links = s.links) : LineSteps s t := by
  refine ⟨fun l => ?_⟩
  rw [State.link, State.link, h]
  exact lineStep_refl _

/-- One link changes, to the link `k`. -/
theorem lineSteps_of_link {s t : State} {l : LinkId} {k : Link}
    (h : ∀ m, t.link m = if l = m then k else s.link m) (hk : LineStep (s.link l) k) : LineSteps s t := by
  refine ⟨fun m => ?_⟩
  rw [h]
  split
  next hlm => exact hlm ▸ hk
  next => exact lineStep_refl _

theorem lineSteps_setLink {s : State} {l : LinkId} {k : Link} (h : LineStep (s.link l) k) :
    LineSteps s (s.setLink l k) := lineSteps_of_link (fun _ => link_setLink ..) h

theorem lineSteps_onLink {s : State} {l : LinkId} {f : Link → Link} (h : LineStep (s.link l) (f (s.link l))) :
    LineSteps s (s.onLink l f) := lineSteps_setLink h

theorem lineSteps_raiseBit (s : State) (bit : Word) : LineSteps s (s.raiseBit bit) := lineSteps_of_links rfl

theorem lineSteps_setTag (s : State) (i : TagId) (t : Tag) : LineSteps s (s.setTag i t) := lineSteps_of_links rfl

theorem lineSteps_eventQueue (s : State) (q : List EvtRecord) : LineSteps s { s with eq := q } :=
  lineSteps_of_links rfl

theorem lineSteps_txFree (s : State) (l : LinkId) : LineSteps s (s.onLink l Link.txFree) :=
  lineSteps_onLink (lineStep_txFree _)

theorem lineSteps_refill (s : State) (l : LinkId) : LineSteps s (refill s l) :=
  lineSteps_of_link (refill_link s l) (lineStep_of_frame rfl rfl rfl rfl rfl)

theorem lineSteps_schedule (s : State) (l : LinkId) : LineSteps s (schedule s l) :=
  (lineSteps_refill s l).trans (lineSteps_onLink (lineStep_pick _ _))

theorem lineSteps_completeTag (s : State) (i : TagId) (r : Result) : LineSteps s (completeTag s i r) :=
  lineSteps_of_link (completeTag_link s i r) (lineStep_dropTag i _)

theorem lineStep_flushed (n : Nat) (l : LinkId) (keep : Bool) (k : Link) : LineStep k (k.flushed n l keep) :=
  ⟨fun _ => orderKept_of_no_station (lineStation_abortTx ..), fun _ => resume_of_none rfl⟩

theorem lineSteps_flush (s : State) (l : LinkId) (status : Status) (keep : Bool) :
    LineSteps s (flush s l status keep) :=
  lineSteps_of_link (fun m => flush_link s l m status keep) (lineStep_flushed ..)

/-! ### Going down and coming up -/

theorem lineStation_wentDown (n : Nat) (l : LinkId) (k : Link) : lineStation (wentDown n l k).sch.tx = none := by
  unfold wentDown
  split <;> exact lineStation_abortTx ..

/-- A link that goes down has no pause frame pending: in UP the flush clears it, and elsewhere none was. -/
theorem wentDown_pendingPause {n : Nat} {l : LinkId} {k : Link} (h : k.ResumeFollowsPause) :
    (wentDown n l k).sch.pendingPause = .none := by
  unfold wentDown
  split
  next => rfl
  next hup => exact h.2 hup

theorem lineSteps_failLink (s : State) (l : LinkId) (cause : FailCause) : LineSteps s (failLink s l cause) :=
  lineSteps_of_link (fun m => failLink_link s l m cause)
    ⟨fun _ => orderKept_of_no_station (lineStation_wentDown ..), fun h => resume_of_none (wentDown_pendingPause h)⟩

theorem lineSteps_stopLink (s : State) (l : LinkId) : LineSteps s (stopLink s l) :=
  lineSteps_of_link (stopLink_link s l)
    ⟨fun _ => orderKept_of_no_station (lineStation_wentDown ..), fun _ => resume_of_none rfl⟩

theorem cameUp_line (low : Nat) (k : Link) :
    (cameUp low k).sch.tx = k.sch.tx ∧ (cameUp low k).pst.replay = [] ∧ (cameUp low k).ctl.state = .up ∧
    (cameUp low k).sch.pendingPause = if low < k.evs.count then .pause else k.sch.pendingPause := by
  simp only [cameUp, Link.enterUp, Link.enterUpEvents, Link.askPause, PostedState.clear]
  split <;> simp

/-- A link that comes up from TRAINING, or anew after a flush, has no RESUME pending. -/
theorem lineStep_cameUp (low : Nat) {k : Link} (h : k.ctl.state ≠ .up ∨ k.sch.pendingPause = .none) :
    LineStep k (cameUp low k) := by
  obtain ⟨htx, hreplay, hup, hpending⟩ := cameUp_line low k
  have hsub : ∀ e ∈ (cameUp low k).pst.replay, e ∈ k.pst.replay := by simp [hreplay]
  refine ⟨LineKept.orderKept (.inr ⟨by rw [htx], hsub⟩), fun hk => ?_⟩
  have hnone : k.sch.pendingPause = .none := h.elim hk.2 id
  rw [hnone] at hpending
  split at hpending
  · exact resume_of_pause hup hpending
  · exact resume_of_none hpending

theorem lineSteps_enterUp {s : State} {l : LinkId}
    (h : (s.link l).ctl.state ≠ .up ∨ (s.link l).sch.pendingPause = .none) : LineSteps s (enterUp s l) := by
  rw [enterUp_eq]
  exact ((lineSteps_onLink (lineStep_cameUp _ h)).trans (lineSteps_raiseBit ..)).trans (lineSteps_schedule ..)

theorem lineSteps_takeHello (s : State) (l : LinkId) : LineSteps s (takeHello s l) := by
  unfold takeHello
  split
  next => exact lineSteps_refl s
  next => exact lineSteps_refl s
  next htraining =>
    refine (lineSteps_onLink (lineStep_of_frame rfl rfl rfl rfl rfl)).trans (lineSteps_enterUp (.inl ?_))
    rw [link_onLink_self]
    exact fun hup => LinkState.noConfusion (htraining.symm.trans hup)
  next =>
    refine ((lineSteps_flush ..).trans (lineSteps_onLink (lineStep_of_frame rfl rfl rfl rfl rfl))).trans
      (lineSteps_enterUp (.inr ?_))
    rw [link_onLink_self, flush_link, if_pos rfl]
    rfl

theorem lineSteps_takeHelloAck (s : State) (l : LinkId) : LineSteps s (takeHelloAck s l) := by
  unfold takeHelloAck
  split
  next => exact lineSteps_refl s
  next => exact lineSteps_refl s
  next htraining => exact lineSteps_enterUp (.inl fun hup => LinkState.noConfusion (htraining.symm.trans hup))
  next => exact lineSteps_onLink (lineStep_of_frame rfl rfl rfl rfl rfl)

/-- START changes the state from OFF or FAILED to TRAINING, in neither of which a pause frame is pending. -/
theorem lineSteps_startLink {s : State} {l : LinkId}
    (h : (s.link l).ctl.state = .off ∨ (s.link l).ctl.state = .failed) : LineSteps s (startLink s l) := by
  rw [startLink_eq]
  refine ((lineSteps_onLink ⟨LineKept.orderKept (lineKept_of_eq rfl rfl), fun hk => ?_⟩).trans
    (lineSteps_raiseBit ..)).trans (lineSteps_schedule ..)
  refine resume_of_none (hk.2 ?_)
  rcases h with h | h <;> rw [h] <;> exact LinkState.noConfusion

/-! ### Replay passes -/

theorem lineSteps_askPass (s : State) (l : LinkId) : LineSteps s (askPass s l) := by
  simp only [askPass]
  split
  · exact (lineSteps_onLink (lineStep_of_frame rfl rfl rfl rfl rfl)).trans (lineSteps_failLink ..)
  · exact (lineSteps_onLink (lineStep_of_frame rfl rfl rfl rfl rfl)).trans
      (lineSteps_onLink (lineStep_of_frame rfl rfl rfl rfl rfl))

theorem lineSteps_endPass (s : State) (l : LinkId) : LineSteps s (endPass s l) := by
  simp only [endPass]
  split
  · exact lineSteps_onLink (lineStep_of_frame rfl rfl rfl rfl rfl)
  split
  · exact (lineSteps_onLink (lineStep_of_frame rfl rfl rfl rfl rfl)).trans (lineSteps_askPass ..)
  · exact (lineSteps_onLink (lineStep_of_frame rfl rfl rfl rfl rfl)).trans
      (lineSteps_onLink (lineStep_of_frame rfl rfl rfl rfl rfl))

theorem lineSteps_endPassIfOver (s : State) (l : LinkId) : LineSteps s (endPassIfOver s l) := by
  unfold endPassIfOver
  split
  · exact lineSteps_endPass s l
  · exact lineSteps_refl s

/-! ### Ends of transmissions -/

theorem lineSteps_endResend (s : State) (l : LinkId) (i : TagId) (g : Gen) :
    LineSteps s (endResend s l i g) := by
  simp only [endResend]
  refine ((lineSteps_txFree s l).trans ?_).trans (lineSteps_schedule ..)
  split
  · exact lineSteps_setTag ..
  · exact lineSteps_refl _

theorem lineSteps_endQueued (s : State) (l : LinkId) (i : TagId) (g : Gen) (held : Bool) :
    LineSteps s (endQueued s l i g held) := by
  simp only [endQueued]
  refine ((lineSteps_txFree s l).trans ?_).trans (lineSteps_schedule ..)
  split
  · exact (lineSteps_setTag ..).trans (lineSteps_onLink (lineStep_of_frame rfl rfl rfl rfl rfl))
  · exact lineSteps_refl _

/-- The posted write joins the replay list after its own frame has left the line. -/
theorem lineSteps_endFirstWr (s : State) (l : LinkId) (seq : Seq) : LineSteps s (endFirstWr s l seq) := by
  simp only [endFirstWr]
  split
  · rw [onLink_onLink]
    exact (lineSteps_onLink (lineStep_of_same (.inl rfl) rfl rfl rfl)).trans (lineSteps_schedule ..)
  · exact (lineSteps_txFree s _).trans (lineSteps_schedule ..)
  · exact (lineSteps_txFree s _).trans (lineSteps_schedule ..)

/-! ### Events -/

theorem lineStep_evs (k : Link) (e : EventSide) : LineStep k { k with evs := e } :=
  lineStep_of_frame rfl rfl rfl rfl rfl

theorem lineStep_eventPopped (low : Nat) (k : Link) : LineStep k (k.eventPopped low) := by
  simp only [Link.eventPopped]
  split
  next h =>
    exact (lineStep_evs k _).trans (lineStep_askResume (k := { k with evs := _ }) h.1)
  next => exact lineStep_of_frame rfl rfl rfl rfl rfl

theorem lineStep_repeatAdvance (interval : Nat) {k : Link} (hup : k.ctl.state = .up) :
    LineStep k (k.repeatAdvance interval) := by
  unfold Link.repeatAdvance
  split
  next =>
    exact (lineStep_evs k _).trans (lineStep_askPause (k := { k with evs := _ }) hup)
  next => exact lineStep_of_frame rfl rfl rfl rfl rfl

theorem lineStep_entryTest (high : Nat) {k : Link} (hup : k.ctl.state = .up) : LineStep k (k.entryTest high) := by
  unfold Link.entryTest
  split
  next =>
    exact (lineStep_evs k _).trans (lineStep_askPause (k := { k with evs := _ }) hup)
  next => exact lineStep_refl k

theorem lineStep_eventStored (high interval : Nat) {k : Link} (hup : k.ctl.state = .up) :
    LineStep k (k.eventStored high interval) := by
  simp only [Link.eventStored]
  split
  · exact (lineStep_evs k _).trans (lineStep_repeatAdvance interval hup)
  · exact (lineStep_evs k _).trans (lineStep_entryTest high hup)

theorem lineStep_eventDropped (interval : Nat) {k : Link} (hup : k.ctl.state = .up) :
    LineStep k (k.eventDropped interval) := by
  simp only [Link.eventDropped]
  split
  · exact (lineStep_evs k _).trans (lineStep_repeatAdvance interval hup)
  · exact lineStep_evs k _

theorem lineSteps_popEvent (s : State) : LineSteps s (popEvent s) := by
  unfold popEvent
  split
  · exact lineSteps_refl s
  next r rest _ =>
    exact ((lineSteps_eventQueue s rest).trans
      (lineSteps_onLink (lineStep_eventPopped _ _))).trans (lineSteps_schedule ..)

theorem lineSteps_takeEvent {s : State} {l : LinkId} (st : StationId) (code : Byte) (payload : Word)
    (hup : (s.link l).ctl.state = .up) : LineSteps s (takeEvent s l st code payload) := by
  simp only [takeEvent]
  split
  · exact ((lineSteps_eventQueue s (s.eq ++ [eventRecord s l st code payload])).trans
      (lineSteps_onLink (lineStep_eventStored _ _ hup))).trans (lineSteps_schedule ..)
  · exact ((lineSteps_raiseBit s _).trans
      (lineSteps_onLink (lineStep_eventDropped _ hup))).trans (lineSteps_schedule ..)

theorem lineSteps_helloExpiry (s : State) (l : LinkId) : LineSteps s (helloExpiry s l) := by
  unfold helloExpiry
  split
  · exact (lineSteps_onLink (lineStep_of_frame rfl rfl rfl rfl rfl)).trans (lineSteps_schedule ..)
  · exact lineSteps_failLink ..

theorem lineSteps_softReset (s : State) : LineSteps s (softReset s) := by
  refine ⟨fun l => ?_⟩
  rw [softReset_link]
  exact ⟨fun _ => orderKept_of_no_station (lineStation_abortTx ..), fun _ => resume_of_none rfl⟩

theorem event_lineSteps {s t : State} (h : Event s t) : LineSteps s t := by
  have hframe {k k' : Link} := @lineStep_of_frame k k'
  cases h with
  | registers h => exact lineSteps_of_links h.links
  | resetRelease => exact lineSteps_of_links rfl
  | softReset => exact lineSteps_softReset s
  | linkConfig h => exact lineSteps_setLink (hframe rfl rfl rfl rfl rfl)
  | received h => exact lineSteps_setLink (hframe rfl rfl rfl rfl rfl)
  | stale => exact lineSteps_onLink (hframe rfl rfl rfl rfl rfl)
  | tick => exact ⟨fun l => (tick_link s l) ▸ hframe rfl rfl rfl rfl rfl⟩
  | ageIncrement => exact lineSteps_of_links (by unfold ageIncrement; split <;> rfl)
  | popCompletion => exact lineSteps_of_links (by unfold popCompletion; split <;> rfl)
  | popEvent => exact lineSteps_popEvent s
  | posted hup hslot => exact (lineSteps_onLink (hframe rfl rfl rfl rfl rfl)).trans (lineSteps_schedule ..)
  | tagged hup hslot hfree =>
    exact ((lineSteps_setTag ..).trans (lineSteps_onLink (hframe rfl rfl rfl rfl rfl))).trans (lineSteps_schedule ..)
  | start h => exact lineSteps_startLink h
  | stop => exact lineSteps_stopLink ..
  | counted hstate h => exact (lineSteps_setTag ..).trans (lineSteps_completeTag ..)
  | resent hstate hlimit =>
    exact ((lineSteps_setTag ..).trans (lineSteps_onLink (hframe rfl rfl rfl rfl rfl))).trans (lineSteps_schedule ..)
  | readied hstate =>
    exact ((lineSteps_setTag ..).trans (lineSteps_onLink (hframe rfl rfl rfl rfl rfl))).trans (lineSteps_schedule ..)
  | deferred hstate => exact lineSteps_of_links rfl
  | final hlink htakes => exact (lineSteps_completeTag ..).trans (lineSteps_schedule ..)
  | paused hup => exact lineSteps_onLink (hframe rfl rfl rfl rfl rfl)
  | unpaused => exact (lineSteps_onLink (hframe rfl rfl rfl rfl rfl)).trans (lineSteps_schedule ..)
  | event hup => exact lineSteps_takeEvent _ _ _ hup
  | helloExpiry h => exact lineSteps_helloExpiry ..
  | malformed h =>
    exact ((lineSteps_onLink (hframe rfl rfl rfl rfl rfl)).trans (lineSteps_onLink
      (hframe rfl rfl rfl rfl rfl))).trans (lineSteps_failLink ..)
  | hello => exact lineSteps_takeHello ..
  | helloAck => exact lineSteps_takeHelloAck ..
  | ackProgress hup hn hle =>
    exact ((lineSteps_onLink (lineStep_of_same (.inr ⟨rfl, fun _ he => List.mem_of_mem_drop he⟩) rfl rfl rfl)).trans
      (lineSteps_endPassIfOver ..)).trans (lineSteps_schedule ..)
  | ackDuplicate hup => exact lineSteps_onLink (hframe rfl rfl rfl rfl rfl)
  | ackPass hup hreplay hpass => exact (lineSteps_askPass ..).trans (lineSteps_schedule ..)
  | replayExpiry h =>
    exact ((lineSteps_onLink (hframe rfl rfl rfl rfl rfl)).trans (lineSteps_askPass ..)).trans
      (lineSteps_schedule ..)
  | endResend hf htx => exact lineSteps_endResend ..
  | endQueued hf htx => exact lineSteps_endQueued ..
  | endFirstWr htx => exact lineSteps_endFirstWr ..
  | endPassFrame htx =>
    exact ((lineSteps_txFree s _).trans (lineSteps_endPassIfOver ..)).trans (lineSteps_schedule ..)
  | freed htx => exact (lineSteps_txFree s _).trans (lineSteps_schedule ..)

theorem events_lineSteps {s t : State} (h : Events s t) : LineSteps s t := by
  induction h with
  | refl => exact lineSteps_refl s
  | tail _ hlast ih => exact ih.trans (event_lineSteps hlast)

/-! ### The statements -/

theorem pinReset_link (s : State) (l : LinkId) : (pinReset s).link l = Link.pinReset := by
  simp [pinReset, State.reset, State.link]

/-- Settles O10: the pin reset clears every line, and every event keeps the order. -/
theorem stepKeepsTheStationOrder : Obligations.StepKeepsTheStationOrder := by
  intro s t hs hstep l
  obtain rfl | ⟨rest, rfl⟩ | ⟨rest, hevents⟩ := step_cases hstep
  · exact hs l
  · rw [pinReset_link]; exact orderKept_of_no_station rfl
  · exact ((events_lineSteps hevents).link l).order (hs l)

/-- Settles O11: the pin reset leaves no pause frame pending, and every event keeps the rule. -/
theorem stepKeepsResumeAfterPause : Obligations.StepKeepsResumeAfterPause := by
  intro s t hs hstep l
  obtain rfl | ⟨rest, rfl⟩ | ⟨rest, hevents⟩ := step_cases hstep
  · exact hs l
  · rw [pinReset_link]; exact resume_of_none rfl
  · exact ((events_lineSteps hevents).link l).resume (hs l)

end Sys2Proof.Proofs.LineAndPause
end

section
/-! The invariants of one link that no tag is needed for: its counts, timers, replay list and quiet (R52 to R64, R138,
R142, R157), and how each operation on a link keeps them. -/

namespace Sys2Proof.Proofs.LinkFits

open Sys2Proof Sys2Proof.Machine Sys2Proof.Laws Sys2Proof.Proofs.Inversion Sys2Proof.Proofs.LinkStates

/-- The invariants of a link that read the link alone. -/
structure LinkFit (k : Link) : Prop where
  counts : k.CountsLegal
  timers : k.TimersFit
  replay : k.ReplayNumbered
  quiet : k.QuietUnlessUp

/-- What the replay invariant reads of a link stays. -/
structure SameReplay (k k' : Link) : Prop where
  nextSeq : k'.pst.nextSeq = k.pst.nextSeq
  replay : k'.pst.replay = k.pst.replay
  pass : k'.pst.pass = k.pst.pass
  tx : k'.sch.tx = k.sch.tx
  head : ∀ p, k.sch.txq.head? = some (.posted p) → k'.sch.txq.head? = some (.posted p)

theorem SameReplay.numbered {k k' : Link} (h : SameReplay k k') (hk : k.ReplayNumbered) : k'.ReplayNumbered := by
  obtain ⟨hlen, hseq, hfirst, hpos, hend⟩ := hk
  simp only [Link.ReplayNumbered, h.nextSeq, h.replay, h.pass, h.tx]
  refine ⟨hlen, hseq, fun seq st a d held htx => ?_, hpos, hend⟩
  obtain ⟨hnext, hroom, p, hp, hframe⟩ := hfirst seq st a d held htx
  exact ⟨hnext, hroom, p, h.head p hp, hframe⟩

/-! ### Operations on the receiver, the configuration, the counts and the timers -/

theorem LinkFit.receive {k : Link} (h : LinkFit k) {r : Receiver} (hr : Receives k r) :
    LinkFit { k with rcv := r } :=
  ⟨hr h.counts, h.timers, h.replay, h.quiet⟩

theorem LinkFit.configure {k : Link} (h : LinkFit k) (c : LinkConfig) : LinkFit { k with cfg := c } :=
  ⟨h.counts, h.timers, h.replay, h.quiet⟩

theorem LinkFit.countStale {k : Link} (h : LinkFit k) : LinkFit k.countStale := by
  obtain ⟨ht, hd, -, hrest⟩ := h.counts
  exact ⟨⟨ht, hd, Nat.min_le_left _ _, hrest⟩, h.timers, h.replay, h.quiet⟩

theorem LinkFit.tick {k : Link} (h : LinkFit k) : LinkFit k.tick := by
  obtain ⟨hhello, hhold, hreplay⟩ := h.timers
  refine ⟨h.counts, ⟨?_, ?_, ?_⟩, h.replay, fun hup => ?_⟩
  · simpa [Link.tick] using hhello
  · simpa [Link.tick] using hhold
  · simpa [Link.tick] using hreplay
  · obtain ⟨htxq, hresend, hready, hpst, hrest⟩ := h.quiet hup
    exact ⟨htxq, hresend, hready, by simp [Link.tick, hpst], hrest⟩

/-! ### Operations on the Event Unit's items -/

/-- The Event Unit's items change on a link, with the pause slot where the link is UP. -/
theorem LinkFit.events {k : Link} (h : LinkFit k) {e : EventSide} {p : PauseSlot} (hlost : e.lost ≤ 255)
    (hrepeat : e.pauseRepeat ≤ 7) (hp : k.ctl.state ≠ .up → p = .none ∧ e.paused = false) :
    LinkFit { k with evs := e, sch := { k.sch with pendingPause := p } } := by
  obtain ⟨ht, hd, hs, ha, hdup, -, -, hrest⟩ := h.counts
  refine ⟨⟨ht, hd, hs, ha, hdup, hlost, hrepeat, hrest⟩, h.timers, h.replay, fun hup => ?_⟩
  obtain ⟨htxq, hresend, hready, hpst, hout, hack, -, -⟩ := h.quiet hup
  exact ⟨htxq, hresend, hready, hpst, hout, hack, hp hup⟩

theorem LinkFit.eventPopped {k : Link} (h : LinkFit k) (low : Nat) : LinkFit (k.eventPopped low) := by
  obtain ⟨-, -, -, -, -, hlost, hrepeat, -⟩ := h.counts
  simp only [Link.eventPopped]
  split
  next hpaused =>
    exact h.events (e := { k.evs with count := k.evs.count - 1, paused := false, pauseRepeat := 0 })
      (p := resumeOutcome k.sch.pendingPause k.sch.lastPause) hlost (Nat.zero_le _) fun hup => absurd hpaused.1 hup
  next =>
    exact h.events (e := { k.evs with count := k.evs.count - 1 }) (p := k.sch.pendingPause) hlost hrepeat fun hup => by
      obtain ⟨-, -, -, -, -, -, hslot, hpaused⟩ := h.quiet hup
      exact ⟨hslot, hpaused⟩

/-- The pause-repeat count stays below the repeat interval, which is at most 8. -/
theorem LinkFit.repeatAdvance {k : Link} (h : LinkFit k) {interval : Nat} (hinterval : interval ≤ 8)
    (hup : k.ctl.state = .up) : LinkFit (k.repeatAdvance interval) := by
  obtain ⟨-, -, -, -, -, hlost, -, -⟩ := h.counts
  unfold Link.repeatAdvance
  split
  next => exact h.events hlost (Nat.zero_le _) fun hne => absurd hup hne
  next hlt =>
    exact h.events (p := k.sch.pendingPause) hlost (show k.evs.pauseRepeat + 1 ≤ 7 by omega) fun hne => absurd hup hne

theorem LinkFit.eventStored {k : Link} (h : LinkFit k) (high : Nat) {interval : Nat} (hinterval : interval ≤ 8)
    (hup : k.ctl.state = .up) : LinkFit (k.eventStored high interval) := by
  obtain ⟨-, -, -, -, -, hlost, hrepeat, -⟩ := h.counts
  have hbase : LinkFit { k with evs := { k.evs with lost := 0, count := k.evs.count + 1 } } :=
    h.events (p := k.sch.pendingPause) (Nat.zero_le _) hrepeat fun hne => absurd hup hne
  simp only [Link.eventStored]
  split
  next => exact hbase.repeatAdvance hinterval hup
  next =>
    unfold Link.entryTest
    split
    next => exact hbase.events (Nat.zero_le _) (Nat.zero_le _) fun hne => absurd hup hne
    next => exact hbase

theorem LinkFit.eventDropped {k : Link} (h : LinkFit k) {interval : Nat} (hinterval : interval ≤ 8)
    (hup : k.ctl.state = .up) : LinkFit (k.eventDropped interval) := by
  obtain ⟨-, -, -, -, -, -, hrepeat, -⟩ := h.counts
  have hbase : LinkFit { k with evs := { k.evs with lost := bump Config.byteMax k.evs.lost } } :=
    h.events (p := k.sch.pendingPause) (Nat.min_le_left _ _) hrepeat fun hne => absurd hup hne
  simp only [Link.eventDropped]
  split
  next => exact hbase.repeatAdvance hinterval hup
  next => exact hbase

/-! ### Operations on the queues of a link in UP -/

/-- In UP the queues change, with a posted write at the head of the transmit queue kept there. -/
theorem LinkFit.queues {k : Link} (h : LinkFit k) (hup : k.ctl.state = .up) {txq : List QEntry}
    {resend ready : List TagId}
    (hhead : ∀ p, k.sch.txq.head? = some (.posted p) → txq.head? = some (.posted p)) :
    LinkFit { k with sch := { k.sch with txq := txq, resend := resend, ready := ready } } :=
  ⟨h.counts, h.timers, SameReplay.numbered (k := k) ⟨rfl, rfl, rfl, rfl, hhead⟩ h.replay, fun hne => absurd hup hne⟩

theorem head?_append_of_some {α : Type} {q : List α} {a : α} (r : List α) (h : q.head? = some a) :
    (q ++ r).head? = some a := by
  simp [List.head?_append, h]

theorem LinkFit.refilled {k : Link} (h : LinkFit k) : LinkFit { k with sch := { k.sch with
    txq := k.sch.txq ++ (k.sch.ready.take k.freeSlots).map .ref
    ready := k.sch.ready.drop k.freeSlots } } := by
  by_cases hup : k.ctl.state = .up
  · exact h.queues hup fun p hp => head?_append_of_some _ hp
  · obtain ⟨htxq, hresend, hready, hrest⟩ := h.quiet hup
    simp only [hready, List.take_nil, List.map_nil, List.append_nil, List.drop_nil]
    exact ⟨h.counts, h.timers, h.replay, fun _ => ⟨htxq, hresend, rfl, hrest⟩⟩

/-- The pauses of the two directions: an outbound pause with its timer, in UP. -/
theorem LinkFit.paused {k : Link} (h : LinkFit k) (hup : k.ctl.state = .up) (c : Countdown) :
    LinkFit { k with sch := { k.sch with outPause := true, holdTimer := some c } } := by
  obtain ⟨hhello, -, hreplay⟩ := h.timers
  exact ⟨h.counts, ⟨hhello, by simp, hreplay⟩, h.replay, fun hne => absurd hup hne⟩

theorem LinkFit.unpaused {k : Link} (h : LinkFit k) :
    LinkFit { k with sch := { k.sch with outPause := false, holdTimer := none } } := by
  obtain ⟨hhello, -, hreplay⟩ := h.timers
  refine ⟨h.counts, ⟨hhello, by simp, hreplay⟩, h.replay, fun hup => ?_⟩
  obtain ⟨htxq, hresend, hready, hpst, -, hrest⟩ := h.quiet hup
  exact ⟨htxq, hresend, hready, hpst, rfl, hrest⟩

/-! ### The transmitter -/

/-- A frame of another source than a pass leaves the line, or one of a pass that has entries left. -/
theorem LinkFit.txFree {k : Link} (h : LinkFit k) (hpass : k.pst.pass ≠ .active none) : LinkFit k.txFree := by
  obtain ⟨hlen, hseq, -, hpos, -⟩ := h.replay
  exact ⟨h.counts, h.timers,
    ⟨hlen, hseq, fun _ _ _ _ _ htx => Transmitter.noConfusion htx, hpos, fun hend => absurd hend hpass⟩, h.quiet⟩

/-- A frame that is not of a pass shows that the pass is not at its end. -/
theorem LinkFit.pass_ne_end {k : Link} (h : LinkFit k) (htx : ∀ f, k.sch.tx ≠ .sending f .pass) :
    k.pst.pass ≠ .active none := fun hend => by
  obtain ⟨-, -, -, -, hpass⟩ := h.replay
  obtain ⟨f, hf⟩ := hpass hend
  exact htx f hf

/-- A frame that is no first WR transmission comes on an idle line; a pass at its end has one of its own. -/
theorem LinkFit.send {k : Link} (h : LinkFit k) (hidle : k.sch.tx = .idle) {f : TxFrame} {src : Source}
    {sch : Scheduler} (htx : sch.tx = .sending f src) (hsrc : ∀ held, src ≠ .queueHead held)
    (hout : sch.outPause = k.sch.outPause) (hhold : sch.holdTimer = k.sch.holdTimer)
    (hquiet : k.ctl.state ≠ .up → { k with sch := sch }.QuietUnlessUp) : LinkFit { k with sch := sch } := by
  obtain ⟨hlen, hseq, -, hpos, hend⟩ := h.replay
  obtain ⟨hhello, hpause, hreplay⟩ := h.timers
  refine ⟨h.counts, ⟨hhello, ?_, hreplay⟩, ⟨hlen, hseq, fun seq st a d held hf => ?_, hpos, fun hp => ?_⟩,
    fun hup => hquiet hup hup⟩
  · show sch.holdTimer.isSome ↔ sch.outPause = true
    rwa [hout, hhold]
  · exact absurd ((Transmitter.sending.inj (htx.symm.trans hf)).2) (hsrc held)
  · obtain ⟨g, hg⟩ := hend hp
    exact Transmitter.noConfusion (hidle.symm.trans hg)

/-- The pass sends the entry at its position, and the position moves to the entry behind it, or the pass is at its end
with its last frame on the line. -/
theorem LinkFit.sendPass {k : Link} (h : LinkFit k) (hup : k.ctl.state = .up) {e : ReplayEntry}
    {next : Option Seq} (hentry : k.passEntry = some (e, next)) :
    LinkFit { k.send (writeFrame e.seq e.write) .pass with pst := { k.pst with pass := .active next } } := by
  obtain ⟨hlen, hseq, -, -, -⟩ := h.replay
  obtain ⟨hhello, hpause, hreplay⟩ := h.timers
  unfold Link.passEntry at hentry
  split at hentry
  · next q hpass =>
    split at hentry
    · next hdrop =>
      cases hentry
      have htimer : k.pst.timer.isSome = false := by
        rw [Bool.eq_false_iff, Ne, hreplay, hpass]
        exact fun hno => ReplayPass.noConfusion hno.2
      have hmem {x : ReplayEntry} (hx : x ∈ e :: _) : x ∈ k.pst.replay :=
        (List.dropWhile_sublist _).subset (hdrop ▸ hx)
      refine ⟨h.counts, ⟨hhello, hpause, ?_⟩, ⟨hlen, hseq, fun _ _ _ _ _ htx => ?_, fun q' hq => ?_, fun _ => ⟨_, rfl⟩⟩,
        fun hne => absurd hup hne⟩
      · simpa [Link.send] using htimer
      · exact Source.noConfusion (Transmitter.sending.inj htx).2
      · obtain ⟨x, hx, hxq⟩ := Option.map_eq_some_iff.mp (ReplayPass.active.inj hq)
        exact ⟨x, hmem (List.mem_cons_of_mem _ (List.mem_of_head? hx)), hxq⟩
    · cases hentry
  · cases hentry
  · cases hentry

theorem requestFrame_ne_wr (i : TagId) (t : Tag) (seq : Seq) (st : StationId) (a : Addr) (d : Word) :
    requestFrame i t ≠ .wr seq st a d := by
  unfold requestFrame
  cases t.kind <;> exact TxFrame.noConfusion

/-- The posted write at the head goes out as a first transmission with the next number, into a slot of the list. -/
theorem LinkFit.sendHead {k : Link} (h : LinkFit k) (hup : k.ctl.state = .up) (hidle : k.sch.tx = .idle)
    {tags : Vector Tag 32} {f : TxFrame} (hhead : headFrame tags k = some f) :
    LinkFit (k.send f (.queueHead true)) := by
  obtain ⟨hlen, hseq, -, hpos, hend⟩ := h.replay
  refine ⟨h.counts, h.timers, ⟨hlen, hseq, fun seq st a d held htx => ?_, hpos, fun hp => ?_⟩,
    fun hne => absurd hup hne⟩
  · obtain rfl : f = .wr seq st a d := (Transmitter.sending.inj htx).1
    unfold headFrame at hhead
    split at hhead
    · cases hhead
    · next p rest htxq =>
      split at hhead
      · next hroom =>
        cases hhead
        exact ⟨rfl, hroom.1, p, by simp [Link.send, htxq], rfl, rfl, rfl⟩
      · cases hhead
    · split at hhead
      · cases hhead
      · exact absurd (Option.some.inj hhead) (requestFrame_ne_wr _ _ _ _ _ _)
  · obtain ⟨g, hg⟩ := hend hp
    exact Transmitter.noConfusion (hidle.symm.trans hg)

theorem LinkFit.pickTraffic {k : Link} (h : LinkFit k) (tags : Vector Tag 32) (hup : k.ctl.state = .up)
    (hidle : k.sch.tx = .idle) : LinkFit (pickTraffic tags k) := by
  unfold Machine.pickTraffic
  split
  next hentry => exact h.sendPass hup hentry
  split
  next => exact h.send hidle rfl (fun _ => Source.noConfusion) rfl rfl fun hne => absurd hup hne
  split
  next hhead => exact h.sendHead hup hidle hhead
  next => exact h

theorem LinkFit.pick {k : Link} (h : LinkFit k) (tags : Vector Tag 32) : LinkFit (pick tags k) := by
  unfold Machine.pick
  split
  next hidle =>
    split
    next hup =>
      unfold pickUp
      split
      · exact h.send hidle rfl (fun _ => Source.noConfusion) rfl rfl fun hne => absurd hup hne
      split
      · exact h.send hidle rfl (fun _ => Source.noConfusion) rfl rfl fun hne => absurd hup hne
      · exact h.send hidle rfl (fun _ => Source.noConfusion) rfl rfl fun hne => absurd hup hne
      split
      · exact h
      · exact h.pickTraffic tags hup hidle
    next =>
      unfold pickTraining
      split
      · exact h.send hidle rfl (fun _ => Source.noConfusion) rfl rfl fun hne _ => h.quiet hne
      · exact h
    next => exact h
    next => exact h
  next => exact h

/-! ### Completion -/

theorem dropTag_tx (i : TagId) (k : Link) : (k.dropTag i).sch.tx = k.sch.tx ∨
    ∃ f held, k.sch.tx = .sending f (.queueHead true) ∧ (k.dropTag i).sch.tx = .sending f (.queueHead held) := by
  simp only [Link.dropTag]
  split
  next f held htx =>
    cases held with
    | true => exact .inr ⟨f, _, htx, rfl⟩
    | false => exact .inl (by rw [htx]; rfl)
  next => exact .inl rfl

theorem LinkFit.dropTag {k : Link} (h : LinkFit k) (i : TagId) : LinkFit (k.dropTag i) := by
  obtain ⟨hlen, hseq, hfirst, hpos, hend⟩ := h.replay
  have hhead (p : Posted) (hp : k.sch.txq.head? = some (.posted p)) :
      (k.dropTag i).sch.txq.head? = some (.posted p) := by
    obtain ⟨rest, hrest⟩ := List.head?_eq_some_iff.mp hp
    simp [Link.dropTag, hrest]
  refine ⟨h.counts, h.timers, ⟨hlen, hseq, fun seq st a d held htx => ?_, hpos, fun hp => ?_⟩, fun hup => ?_⟩
  · have hbefore : ∃ held', k.sch.tx = .sending (.wr seq st a d) (.queueHead held') := by
      rcases dropTag_tx i k with hsame | ⟨f, held', hf, hdropped⟩
      · exact ⟨held, hsame ▸ htx⟩
      · exact ⟨true, hf.trans (by rw [(Transmitter.sending.inj (hdropped.symm.trans htx)).1])⟩
    obtain ⟨held', hheld⟩ := hbefore
    obtain ⟨hnext, hroom, p, hp, hframe⟩ := hfirst seq st a d held' hheld
    exact ⟨hnext, hroom, p, hhead p hp, hframe⟩
  · obtain ⟨f, hf⟩ := hend hp
    exact ⟨f, by simp [Link.dropTag, hf]⟩
  · obtain ⟨htxq, hresend, hready, hrest⟩ := h.quiet hup
    exact ⟨by simp [Link.dropTag, htxq], by simp [Link.dropTag, hresend], by simp [Link.dropTag, hready], hrest⟩

/-! ### The replay list -/

theorem seq_ofNat_succ (n : Nat) : BitVec.ofNat 6 (n + 1) = BitVec.ofNat 6 n + 1 := BitVec.ofNat_add n 1

theorem consecutiveFrom_append {n : Seq} {q : List ReplayEntry} (h : consecutiveFrom n q) (e : ReplayEntry)
    (he : e.seq = n + BitVec.ofNat 6 q.length) : consecutiveFrom n (q ++ [e]) := by
  induction q generalizing n with
  | nil => exact ⟨by simpa using he, trivial⟩
  | cons x rest ih =>
    obtain ⟨hx, hrest⟩ := h
    refine ⟨hx, ih hrest ?_⟩
    rw [he, List.length_cons, seq_ofNat_succ, add_right_comm, add_assoc]

theorem consecutiveFrom_drop {n : Seq} {q : List ReplayEntry} (h : consecutiveFrom n q) (m : Nat)
    (hm : m ≤ q.length) : consecutiveFrom (n + BitVec.ofNat 6 m) (q.drop m) := by
  induction m generalizing n q with
  | zero => simpa using h
  | succ m ih =>
    cases q with
    | nil => cases hm
    | cons x rest =>
      have hrest := ih h.2 (Nat.le_of_succ_le_succ hm)
      rwa [add_assoc, add_comm 1, ← seq_ofNat_succ] at hrest

/-- The write of a first transmission joins the list behind the others, with the number that next_seq had. -/
theorem LinkFit.joinReplay {k : Link} (h : LinkFit k) (hup : k.ctl.state = .up) {seq : Seq} {st : StationId}
    {a : Addr} {d : Word} {held : Bool} (htx : k.sch.tx = .sending (.wr seq st a d) (.queueHead held))
    (p : Posted) : LinkFit (k.txFree.joinReplay seq p).headLeaves := by
  have hpass : k.pst.pass ≠ .active none := h.pass_ne_end fun f hf =>
    Source.noConfusion (Transmitter.sending.inj (htx.symm.trans hf)).2
  obtain ⟨hlen, hseq, hfirst, hpos, -⟩ := h.replay
  obtain ⟨hhello, hhold, htimer⟩ := h.timers
  obtain ⟨rfl, hroom, -⟩ := hfirst seq st a d held htx
  refine ⟨h.counts, ⟨hhello, hhold, ?_⟩, ⟨?_, ?_, fun _ _ _ _ _ hf => Transmitter.noConfusion hf, fun q hq => ?_,
    fun hend => absurd hend hpass⟩, fun hne => absurd hup hne⟩
  · show (if k.pst.replay = [] ∧ k.pst.pass = .none then _ else k.pst.timer : Option Countdown).isSome ↔
      k.pst.replay ++ [_] ≠ [] ∧ k.pst.pass = .none
    split
    next hstart => simp [Link.replayStart, hstart.2]
    next hkeep => rw [htimer]; simp; tauto
  · simpa [Link.headLeaves, Link.joinReplay, Link.txFree] using hroom
  · have hbase : k.pst.nextSeq + 1 - BitVec.ofNat 6 (k.pst.replay.length + 1) =
        k.pst.nextSeq - BitVec.ofNat 6 k.pst.replay.length := by
      rw [seq_ofNat_succ]; ring
    simp only [Link.headLeaves, Link.joinReplay, Link.txFree, List.length_append, List.length_singleton, hbase]
    exact consecutiveFrom_append hseq _ (by simp)
  · obtain ⟨e, he, hq'⟩ := hpos q hq
    exact ⟨e, List.mem_append_left _ he, hq'⟩

/-- A pass starts at the oldest entry of a list that holds one. -/
theorem LinkFit.startPass {k : Link} (h : LinkFit k) (hup : k.ctl.state = .up) (hreplay : k.pst.replay ≠ [])
    (hlimit : k.pst.attempts + 1 ≤ 15) : LinkFit { k with pst := { k.pst with
      attempts := k.pst.attempts + 1, pass := .active (k.pst.replay.head?.map (·.seq)), timer := none
      duplicates := 0 } } := by
  obtain ⟨ht, hd, hs, -, -, hrest⟩ := h.counts
  obtain ⟨hlen, hseq, hfirst, hpos, -⟩ := h.replay
  obtain ⟨hhello, hhold, -⟩ := h.timers
  obtain ⟨e, more, he⟩ := List.exists_cons_of_ne_nil hreplay
  refine ⟨⟨ht, hd, hs, hlimit, Nat.zero_le _, hrest⟩, ⟨hhello, hhold, by simp⟩,
    ⟨hlen, hseq, hfirst, fun q hq => ⟨e, by simp [he], ?_⟩, fun hend => ?_⟩, fun hne => absurd hup hne⟩
  · simpa [he] using hq
  · simp [he] at hend

/-- A pass that is over ends, and the replay timer starts where entries are left. -/
theorem LinkFit.endPass {k : Link} (h : LinkFit k) (hup : k.ctl.state = .up) {c : Option Countdown}
    (hc : c.isSome ↔ k.pst.replay ≠ []) :
    LinkFit { k with pst := { k.pst with pass := .none, timer := c } } := by
  obtain ⟨hlen, hseq, hfirst, -, -⟩ := h.replay
  obtain ⟨hhello, hhold, -⟩ := h.timers
  exact ⟨h.counts, ⟨hhello, hhold, by simpa using hc⟩,
    ⟨hlen, hseq, hfirst, fun _ hq => ReplayPass.noConfusion hq, fun hq => ReplayPass.noConfusion hq⟩,
    fun hne => absurd hup hne⟩

theorem LinkFit.ackDuplicate {k : Link} (h : LinkFit k) (hup : k.ctl.state = .up) : LinkFit k.ackDuplicate := by
  obtain ⟨ht, hd, hs, ha, -, hrest⟩ := h.counts
  exact ⟨⟨ht, hd, hs, ha, Nat.min_le_left _ _, hrest⟩, h.timers, h.replay, fun hne => absurd hup hne⟩

/-! ### A progress acknowledgement (R58, R59) -/

/-- The position after an acknowledgement: none outside a pass, at its end where it was there or where it stood on a
removed entry with nothing behind, and otherwise on an entry that is left. -/
theorem afterProgress_cases {pass : ReplayPass} {removed rest : List ReplayEntry}
    (hpos : ∀ q, pass = .active (some q) → ∃ e ∈ removed ++ rest, e.seq = q) :
    (pass = .none ∧ pass.afterProgress removed rest = .none) ∨
    (pass = .active none ∧ pass.afterProgress removed rest = .active none) ∨
    (pass ≠ .none ∧ rest = [] ∧ pass.afterProgress removed rest = .active none) ∨
    (pass ≠ .none ∧ ∃ e ∈ rest, pass.afterProgress removed rest = .active (some e.seq)) := by
  match pass with
  | .none => exact .inl ⟨rfl, rfl⟩
  | .active none => exact .inr (.inl ⟨rfl, rfl⟩)
  | .active (some q) =>
    refine .inr (.inr ?_)
    simp only [ReplayPass.afterProgress]
    split
    next =>
      cases rest with
      | nil => exact .inl ⟨ReplayPass.noConfusion, rfl, rfl⟩
      | cons e more => exact .inr ⟨ReplayPass.noConfusion, e, List.mem_cons_self, rfl⟩
    next hleft =>
      obtain ⟨e, he, rfl⟩ := hpos q rfl
      refine .inr ⟨ReplayPass.noConfusion, e, (List.mem_append.mp he).resolve_left fun hin => hleft ?_, rfl⟩
      exact List.any_eq_true.mpr ⟨e, hin, decide_eq_true rfl⟩

theorem passOver_iff {k : Link} :
    k.passOver = true ↔ k.pst.pass = .active none ∧ ∀ f, k.sch.tx ≠ .sending f .pass := by
  simp only [Link.passOver, Bool.and_eq_true, decide_eq_true_eq, and_congr_right_iff]
  intro _
  split <;> simp [*]

theorem LinkFit.timer_none {k : Link} (h : LinkFit k) (hpass : k.pst.pass ≠ .none) : k.pst.timer = none := by
  obtain ⟨-, -, htimer⟩ := h.timers
  exact Option.not_isSome_iff_eq_none.mp fun hsome => hpass (htimer.mp hsome).2

/-- Where a pass is over after an acknowledgement, nothing is left in the list. -/
theorem LinkFit.replay_nil_of_passOver {k : Link} (h : LinkFit k) {n : Nat}
    (hover : (k.ackProgress n).passOver = true) :
    (k.ackProgress n).pst.replay = [] ∧ (k.ackProgress n).pst.timer = none := by
  obtain ⟨-, -, -, hpos, hend⟩ := h.replay
  obtain ⟨hpass, htx⟩ := passOver_iff.mp hover
  rw [← List.take_append_drop n k.pst.replay] at hpos
  change k.pst.pass.afterProgress (k.pst.replay.take n) (k.pst.replay.drop n) = .active none at hpass
  show k.pst.replay.drop n = [] ∧ (if k.pst.pass = .none then _ else k.pst.timer : Option Countdown) = none
  obtain ⟨-, hp⟩ | ⟨hp, -⟩ | ⟨hne, hrest, -⟩ | ⟨-, e, -, hp⟩ := afterProgress_cases hpos
  · exact ReplayPass.noConfusion (hp.symm.trans hpass)
  · obtain ⟨f, hf⟩ := hend hp
    exact absurd hf (htx f)
  · rw [if_neg hne]
    exact ⟨hrest, h.timer_none hne⟩
  · exact absurd (hp.symm.trans hpass) (by simp)

/-- The numbers that are left stay consecutive up to next_seq. -/
theorem consecutiveFrom_acknowledged {nextSeq : Seq} {q : List ReplayEntry} {n : Nat} (hn : n ≤ q.length)
    (h : consecutiveFrom (nextSeq - BitVec.ofNat 6 q.length) q) :
    consecutiveFrom (nextSeq - BitVec.ofNat 6 (q.drop n).length) (q.drop n) := by
  have hstart : nextSeq - BitVec.ofNat 6 q.length + BitVec.ofNat 6 n =
      nextSeq - BitVec.ofNat 6 (q.drop n).length := by
    have hsplit : q.length = (q.drop n).length + n := by rw [List.length_drop]; omega
    rw [hsplit, BitVec.ofNat_add]
    ring
  exact hstart ▸ consecutiveFrom_drop h n hn

theorem LinkFit.ackProgress {k : Link} (h : LinkFit k) (hup : k.ctl.state = .up) {n : Nat}
    (hn : n ≤ k.pst.replay.length) : LinkFit (if (k.ackProgress n).passOver
      then { k.ackProgress n with pst := { (k.ackProgress n).pst with pass := .none } } else k.ackProgress n) := by
  obtain ⟨ht, hd, hs, -, -, hrest⟩ := h.counts
  obtain ⟨hlen, hseq, hfirst, hpos, hend⟩ := h.replay
  obtain ⟨hhello, hhold, htimer⟩ := h.timers
  have hcounts : (k.ackProgress n).CountsLegal := ⟨ht, hd, hs, Nat.zero_le _, Nat.zero_le _, hrest⟩
  have hdrop : (k.pst.replay.drop n).length ≤ k.pst.replay.length := by simp
  have hfirst' : ∀ seq st a d held, k.sch.tx = .sending (.wr seq st a d) (.queueHead held) →
      seq = k.pst.nextSeq ∧ (k.pst.replay.drop n).length < 8 ∧
      ∃ p, k.sch.txq.head? = some (.posted p) ∧ p.station = st ∧ p.remoteAddr = a ∧ p.data = d := by
    intro seq st a d held htx
    obtain ⟨hnext, hroom, hp⟩ := hfirst seq st a d held htx
    exact ⟨hnext, hdrop.trans_lt hroom, hp⟩
  have hseq' := consecutiveFrom_acknowledged hn hseq
  split
  next hover =>
    obtain ⟨hnil, hstopped⟩ := h.replay_nil_of_passOver hover
    exact ⟨hcounts, ⟨hhello, hhold, by simp [hnil, hstopped]⟩, ⟨hdrop.trans hlen, hseq', hfirst',
      fun _ hq => ReplayPass.noConfusion hq, fun hq => ReplayPass.noConfusion hq⟩, fun hne => absurd hup hne⟩
  next hover =>
    rw [← List.take_append_drop n k.pst.replay] at hpos
    refine ⟨hcounts, ⟨hhello, hhold, ?_⟩, ⟨hdrop.trans hlen, hseq', hfirst', fun q hq => ?_, fun hq => ?_⟩,
      fun hne => absurd hup hne⟩
    · show (if k.pst.pass = .none then (if k.pst.replay.drop n = [] then none else k.replayStart)
          else k.pst.timer).isSome ↔ k.pst.replay.drop n ≠ [] ∧
        k.pst.pass.afterProgress (k.pst.replay.take n) (k.pst.replay.drop n) = .none
      obtain ⟨hp, hp'⟩ | ⟨hp, hp'⟩ | ⟨hp, -, hp'⟩ | ⟨hp, e, -, hp'⟩ := afterProgress_cases hpos
      · rw [if_pos hp, hp']
        split <;> simp [*, Link.replayStart]
      · have hne : k.pst.pass ≠ .none := by rw [hp]; exact ReplayPass.noConfusion
        rw [hp', if_neg hne, h.timer_none hne]; simp
      · rw [hp', if_neg hp, h.timer_none hp]; simp
      · rw [hp', if_neg hp, h.timer_none hp]; simp
    · obtain ⟨-, hp⟩ | ⟨-, hp⟩ | ⟨-, -, hp⟩ | ⟨-, e, he, hp⟩ := afterProgress_cases hpos
      · cases hp.symm.trans hq
      · cases hp.symm.trans hq
      · cases hp.symm.trans hq
      · exact ⟨e, he, Option.some.inj (ReplayPass.active.inj (hp.symm.trans hq))⟩
    · by_contra hnone
      exact hover (passOver_iff.mpr ⟨hq, fun f hf => hnone ⟨f, hf⟩⟩)

/-! ### Going down -/

/-- A link that has gone down to OFF or FAILED, with any receiver whose counts are in range. -/
theorem LinkFit.wentDown {k : Link} (h : LinkFit k) (n : Nat) (l : LinkId) {state : LinkState} {cause : FailCause}
    {last : PauseSlot} {r : Receiver} (hstate : state = .off ∨ state = .failed)
    (hr : r.badFrames ≤ 65535 ∧ r.consecutiveBad ≤ 8 ∧ r.kept.length ≤ 9) :
    LinkFit { wentDown n l k with
      ctl := { (wentDown n l k).ctl with state := state, cause := cause }
      sch := { (wentDown n l k).sch with pendingPause := .none, lastPause := last }
      rcv := r } := by
  obtain ⟨ht, hd, hs, ha, hdup, hl, hp, -⟩ := h.counts
  obtain ⟨hframes, hbad, hkept⟩ := hr
  have hup : state ≠ .up := by rcases hstate with rfl | rfl <;> decide
  have htraining : state ≠ .training := by rcases hstate with rfl | rfl <;> decide
  have hjudging : state = .training ∨ state = .up → r.consecutiveBad ≤ 7 :=
    fun hj => (hj.elim htraining hup).elim
  have habort (seq : Seq) (st : StationId) (a : Addr) (d : Word) (held : Bool) :
      abortTx n l k.sch.tx ≠ .sending (.wr seq st a d) (.queueHead held) := by
    cases k.sch.tx <;> exact Transmitter.noConfusion
  unfold LinkStates.wentDown
  split
  next =>
    exact ⟨⟨ht, Nat.min_le_left _ _, hs, Nat.zero_le _, Nat.zero_le _, hl, Nat.zero_le _, hframes, hbad, hjudging,
      hkept⟩, ⟨by simp [htraining], by simp [Link.flushed], by simp [Link.flushed, PostedState.clear]⟩,
      ⟨Nat.zero_le _, trivial, fun seq st a d held hf => absurd hf (habort seq st a d held),
        fun _ hq => ReplayPass.noConfusion hq, fun hq => ReplayPass.noConfusion hq⟩,
      fun _ => ⟨rfl, rfl, rfl, rfl, rfl, rfl, rfl, rfl⟩⟩
  next hne =>
    obtain ⟨htxq, hresend, hready, hpst, hout, -, -, hpaused⟩ := h.quiet hne
    obtain ⟨-, hhold, htimer⟩ := h.timers
    exact ⟨⟨ht, hd, hs, ha, hdup, hl, hp, hframes, hbad, hjudging, hkept⟩,
      ⟨by simp [htraining], hhold, htimer⟩,
      ⟨by simp [Link.abort, hpst], by simp [Link.abort, hpst, consecutiveFrom],
        fun seq st a d held hf => absurd hf (habort seq st a d held),
        fun _ hq => ReplayPass.noConfusion (hq.symm.trans (congrArg PostedState.pass hpst)),
        fun hq => ReplayPass.noConfusion (hq.symm.trans (congrArg PostedState.pass hpst))⟩,
      fun _ => ⟨htxq, hresend, hready, hpst, hout, rfl, rfl, hpaused⟩⟩

/-! ### Coming up and training -/

/-- A link comes up from a state in which no first WR transmission is on its line. -/
theorem linkFit_cameUp {k : Link} (low : Nat) (hcounts : k.CountsLegal) (hbad : k.rcv.consecutiveBad ≤ 7)
    (htx : ∀ seq st a d held, k.sch.tx ≠ .sending (.wr seq st a d) (.queueHead held)) :
    LinkFit (cameUp low k) := by
  obtain ⟨ht, hd, hs, -, -, hl, -, hframes, hbad', -, hkept⟩ := hcounts
  simp only [cameUp, Link.enterUp, Link.enterUpEvents, Link.askPause]
  split <;>
  exact ⟨⟨ht, hd, hs, Nat.zero_le _, Nat.zero_le _, hl, Nat.zero_le _, hframes, hbad', fun _ => hbad, hkept⟩,
    ⟨by simp, by simp, by simp [PostedState.clear]⟩,
    ⟨Nat.zero_le _, trivial, fun seq st a d held hf => absurd hf (htx seq st a d held),
      fun _ hq => ReplayPass.noConfusion hq, fun hq => ReplayPass.noConfusion hq⟩,
    fun hne => absurd rfl hne⟩

theorem LinkFit.started {k : Link} (h : LinkFit k) (hdown : k.ctl.state = .off ∨ k.ctl.state = .failed) :
    LinkFit { k.started with ctl := { k.started.ctl with state := .training } } := by
  obtain ⟨-, -, hs, ha, hdup, hl, hp, hframes, -, -, hkept⟩ := h.counts
  obtain ⟨-, hhold, htimer⟩ := h.timers
  have hne : k.ctl.state ≠ .up := by rcases hdown with hd | hd <;> rw [hd] <;> decide
  exact ⟨⟨(by decide : 1 ≤ 16), Nat.zero_le _, hs, ha, hdup, hl, hp, hframes, Nat.zero_le _, fun _ => Nat.zero_le _,
    hkept⟩,
    ⟨by simp [Link.started], hhold, htimer⟩, h.replay, fun _ => h.quiet hne⟩

theorem LinkFit.helloRepeats {k : Link} (h : LinkFit k) (htraining : k.ctl.state = .training)
    (hlimit : k.ctl.trainAttempts < 16) (c : Countdown) : LinkFit { k with
      ctl := { k.ctl with trainAttempts := k.ctl.trainAttempts + 1, helloTimer := some c }
      sch := { k.sch with helloDue := true } } := by
  obtain ⟨-, hrest⟩ := h.counts
  obtain ⟨-, hhold, htimer⟩ := h.timers
  exact ⟨⟨hlimit, hrest⟩, ⟨by simp [htraining], hhold, htimer⟩, h.replay, fun hne => h.quiet hne⟩

theorem linkFit_softReset (n : Nat) (l : LinkId) (k : Link) : LinkFit (k.softReset n l) := by
  have habort (seq : Seq) (st : StationId) (a : Addr) (d : Word) (held : Bool) :
      abortTx n l k.sch.tx ≠ .sending (.wr seq st a d) (.queueHead held) := by
    cases k.sch.tx <;> exact Transmitter.noConfusion
  have hcounts : Link.pinReset.CountsLegal := by decide
  have htimers : Link.pinReset.TimersFit := by decide
  exact ⟨hcounts, htimers, ⟨Nat.zero_le _, trivial, fun seq st a d held hf => absurd hf (habort seq st a d held),
    fun _ hq => ReplayPass.noConfusion hq, fun hq => ReplayPass.noConfusion hq⟩,
    fun _ => ⟨rfl, rfl, rfl, rfl, rfl, rfl, rfl, rfl⟩⟩

end Sys2Proof.Proofs.LinkFits
end

section
/-! The references between the tag table and the collections of a link (R2, R29), and how each operation on a tag and
its link keeps them. -/

namespace Sys2Proof.Proofs.References

open Sys2Proof Sys2Proof.Machine Sys2Proof.Laws Sys2Proof.Proofs.Inversion Sys2Proof.Proofs.LinkStates

/-- A tag table as a function, with one tag replaced. -/
def replaced (T : TagId → Tag) (i : TagId) (t : Tag) : TagId → Tag := fun j => if i = j then t else T j

@[simp] theorem replaced_self (T : TagId → Tag) (i : TagId) (t : Tag) : replaced T i t i = t := if_pos rfl

theorem replaced_of_ne (T : TagId → Tag) {i j : TagId} (t : Tag) (h : j ≠ i) : replaced T i t j = T j :=
  if_neg h.symm

theorem inFlight_iff {t : Tag} : t.inFlight = true ↔ t.state ≠ .free ∧ t.state ≠ .complete := by
  unfold Tag.inFlight
  split <;> simp [*]

/-- The collections of a link and the tags it holds agree, but that the ready-deferred list may wait behind a queue with
free slots until the end of the event. -/
structure Refs (l : LinkId) (k : Link) (T : TagId → Tag) : Prop where
  room : k.sch.txq.length ≤ 16
  refers : ∀ i, k.RefersTo l i (T i)
  up : ∀ i, (T i).link = l → (T i).inFlight = true → k.ctl.state = .up

/-- What the collections of a link and its line say of one tag stays. -/
structure SamePlace (k k' : Link) (i : TagId) : Prop where
  txq : k'.sch.txq.count (.ref i) = k.sch.txq.count (.ref i)
  ready : k'.sch.ready.count i = k.sch.ready.count i
  resend : k'.sch.resend.count i = k.sch.resend.count i
  resendLine : ∀ g, k'.resendOnLine = some (i, g) ↔ k.resendOnLine = some (i, g)
  headLine : ∀ g, k'.headOnLine = some (i, g) → k.headOnLine = some (i, g)
  head : k.sch.txq.head? = some (.ref i) → k'.headOnLine.isSome → k'.sch.txq.head? = some (.ref i)

theorem of_none_of_some {α : Type} {o : Option α} {a : α} {P : Prop} (h : o = none) (hg : o = some a) : P := by
  cases h.symm.trans hg

theorem map_fst_eq_some {o : Option (TagId × Gen)} {i : TagId} :
    o.map (·.1) = some i ↔ ∃ g, o = some (i, g) := by
  simp [Option.map_eq_some_iff, Prod.exists]

theorem SamePlace.refersTo {k k' : Link} {l : LinkId} {i : TagId} {t : Tag} (h : SamePlace k k' i)
    (hk : k.RefersTo l i t) : k'.RefersTo l i t := by
  obtain ⟨htxq, hready, hresend, hline, hhead⟩ := hk
  have hsame : (k'.resendOnLine.map (·.1) = some i) ↔ (k.resendOnLine.map (·.1) = some i) := by
    simp only [map_fst_eq_some, h.resendLine]
  refine ⟨h.txq.trans htxq, h.ready.trans hready, (h.resend.trans hresend).trans ?_,
    fun g hg => hline g ((h.resendLine g).mp hg), fun g hg => ?_⟩
  · simp only [ne_eq, hsame]
  · obtain ⟨hgen, hlink, hstate, hfirst⟩ := hhead g (h.headLine g hg)
    exact ⟨hgen, hlink, hstate, h.head hfirst (by rw [hg]; rfl)⟩

theorem samePlace_of_sch {k k' : Link} (htxq : k'.sch.txq = k.sch.txq) (hready : k'.sch.ready = k.sch.ready)
    (hresend : k'.sch.resend = k.sch.resend) (htx : k'.sch.tx = k.sch.tx) (i : TagId) : SamePlace k k' i := by
  have hline : k'.resendOnLine = k.resendOnLine := by simp only [Link.resendOnLine, htx]
  have hhead : k'.headOnLine = k.headOnLine := by simp only [Link.headOnLine, htx]
  exact ⟨by rw [htxq], by rw [hready], by rw [hresend], fun _ => by rw [hline], fun _ => by rw [hhead]; exact id,
    fun h _ => htxq ▸ h⟩

/-- An operation on neither the collections nor the line of the link, which does not leave UP. -/
theorem Refs.frame {l : LinkId} {k k' : Link} {T : TagId → Tag} (h : Refs l k T) (htxq : k'.sch.txq = k.sch.txq)
    (hready : k'.sch.ready = k.sch.ready) (hresend : k'.sch.resend = k.sch.resend) (htx : k'.sch.tx = k.sch.tx)
    (hstate : k.ctl.state = .up → k'.ctl.state = .up) : Refs l k' T :=
  ⟨htxq ▸ h.room, fun i => (samePlace_of_sch htxq hready hresend htx i).refersTo (h.refers i),
    fun i hl hf => hstate (h.up i hl hf)⟩

/-! ### What the references say of a tag by its state -/

section

variable {l : LinkId} {k : Link} {i : TagId} {t : Tag}

theorem not_mem_txq (h : k.RefersTo l i t) (ht : t.link ≠ l ∨ t.state ≠ .queued) : QEntry.ref i ∉ k.sch.txq := by
  obtain ⟨htxq, -⟩ := h
  rw [if_neg (not_and_or.mpr ht)] at htxq
  exact List.count_eq_zero.mp htxq

theorem not_mem_ready (h : k.RefersTo l i t) (ht : t.link ≠ l ∨ t.state ≠ .ready) : i ∉ k.sch.ready := by
  obtain ⟨-, hready, -⟩ := h
  rw [if_neg (not_and_or.mpr ht)] at hready
  exact List.count_eq_zero.mp hready

theorem not_mem_resend (h : k.RefersTo l i t) (ht : t.link ≠ l ∨ t.state ≠ .resend) : i ∉ k.sch.resend := by
  obtain ⟨-, -, hresend, -⟩ := h
  rw [if_neg (by tauto)] at hresend
  exact List.count_eq_zero.mp hresend

theorem of_mem_txq (h : k.RefersTo l i t) (hi : QEntry.ref i ∈ k.sch.txq) : t.link = l ∧ t.state = .queued := by
  by_contra hno
  exact not_mem_txq h (not_and_or.mp hno) hi

theorem of_mem_ready (h : k.RefersTo l i t) (hi : i ∈ k.sch.ready) : t.link = l ∧ t.state = .ready := by
  by_contra hno
  exact not_mem_ready h (not_and_or.mp hno) hi

theorem of_mem_resend (h : k.RefersTo l i t) (hi : i ∈ k.sch.resend) : t.link = l ∧ t.state = .resend := by
  by_contra hno
  exact not_mem_resend h (not_and_or.mp hno) hi

/-- A tag of the link in AWAIT, DEFERRED or READY has no frame of the resend order on the line. -/
theorem resendOnLine_ne (h : k.RefersTo l i t) (hl : t.link = l)
    (ht : t.state = .await ∨ t.state = .deferred ∨ t.state = .ready) (g : Gen) : k.resendOnLine ≠ some (i, g) := by
  obtain ⟨-, -, -, hline, -⟩ := h
  intro hg
  obtain ⟨hawait, hdeferred, hready, -⟩ := hline g hg hl
  tauto

theorem headOnLine_ne (h : k.RefersTo l i t) (ht : t.link ≠ l ∨ t.state ≠ .queued) (g : Gen) :
    k.headOnLine ≠ some (i, g) := by
  obtain ⟨-, -, -, -, hhead⟩ := h
  intro hg
  obtain ⟨-, hl, hs, -⟩ := hhead g hg
  tauto

/-- A tag without a place in the collections of the link, and without a frame of it there, refers to nothing. -/
theorem refersTo_of_absent (htxq : QEntry.ref i ∉ k.sch.txq) (hready : i ∉ k.sch.ready) (hresend : i ∉ k.sch.resend)
    (hhead : ∀ g, k.headOnLine ≠ some (i, g)) (hqueued : t.link = l → t.state ≠ .queued ∧ t.state ≠ .ready)
    (hline : t.link = l → t.state ≠ .resend ∧ ∀ g, k.resendOnLine = some (i, g) →
      t.state ≠ .await ∧ t.state ≠ .deferred) : k.RefersTo l i t := by
  refine ⟨?_, ?_, ?_, fun g hg hl => ?_, fun g hg => absurd hg (hhead g)⟩
  · rw [if_neg fun hq => (hqueued hq.1).1 hq.2]
    exact List.count_eq_zero.mpr htxq
  · rw [if_neg fun hq => (hqueued hq.1).2 hq.2]
    exact List.count_eq_zero.mpr hready
  · rw [if_neg fun hq => (hline hq.1).1 hq.2.1]
    exact List.count_eq_zero.mpr hresend
  · obtain ⟨hno, hstates⟩ := hline hl
    obtain ⟨hawait, hdeferred⟩ := hstates g hg
    exact ⟨hawait, hdeferred, (hqueued hl).2, fun hr => absurd hr hno⟩

end

/-! ### A tag that changes away from a link -/

/-- The tag is of no concern to a link: it belongs to another one, or it is not in flight. -/
def Away (m : LinkId) (t : Tag) : Prop := t.link ≠ m ∨ t.inFlight = false

theorem Away.states {m : LinkId} {t : Tag} (h : Away m t) (hl : t.link = m) :
    t.state = .free ∨ t.state = .complete := by
  have hout := h.resolve_left (not_not_intro hl)
  by_contra hno
  exact Bool.noConfusion (hout.symm.trans (inFlight_iff.mpr (not_or.mp hno)))

theorem Away.ne {m : LinkId} {t : Tag} (h : Away m t) {st : TagState} (hfree : st ≠ .free)
    (hcomplete : st ≠ .complete) : t.link ≠ m ∨ t.state ≠ st := by
  by_cases hl : t.link = m
  · right
    rcases h.states hl with hs | hs <;> rw [hs]
    · exact hfree.symm
    · exact hcomplete.symm
  · exact .inl hl

theorem refersTo_of_away {m : LinkId} {k : Link} {i : TagId} {t t' : Tag} (h : k.RefersTo m i t)
    (hold : Away m t) (hnew : Away m t') : k.RefersTo m i t' := by
  refine refersTo_of_absent (not_mem_txq h (hold.ne (by decide) (by decide)))
    (not_mem_ready h (hold.ne (by decide) (by decide))) (not_mem_resend h (hold.ne (by decide) (by decide)))
    (headOnLine_ne h (hold.ne (by decide) (by decide))) (fun hl => ?_) (fun hl => ?_) <;>
  rcases hnew.states hl with hs | hs <;> rw [hs] <;> simp

/-- The tags that change are of no concern to the link, before and after. -/
theorem Refs.away {m : LinkId} {k : Link} {T T' : TagId → Tag} (h : Refs m k T)
    (hsame : ∀ i, T' i = T i ∨ Away m (T i) ∧ Away m (T' i)) : Refs m k T' := by
  refine ⟨h.room, fun i => ?_, fun i hl hf => ?_⟩
  · obtain heq | ⟨hold, hnew⟩ := hsame i
    · rw [heq]
      exact h.refers i
    · exact refersTo_of_away (h.refers i) hold hnew
  · obtain heq | ⟨-, hnew⟩ := hsame i
    · rw [heq] at hl hf
      exact h.up i hl hf
    · exact absurd hf (by simp [hnew.resolve_left (not_not_intro hl)])

/-! ### A tag that changes on its link -/

/-- One tag of a link in UP changes with its place; every other tag keeps its own. -/
theorem Refs.change {l : LinkId} {k k' : Link} {T : TagId → Tag} (h : Refs l k T) {i : TagId} {t : Tag}
    (hup : k'.ctl.state = .up) (hroom : k'.sch.txq.length ≤ 16) (hother : ∀ j, j ≠ i → SamePlace k k' j)
    (hself : k'.RefersTo l i t) : Refs l k' (replaced T i t) := by
  refine ⟨hroom, fun j => ?_, fun _ _ _ => hup⟩
  by_cases hj : j = i
  · subst hj
    rwa [replaced_self]
  · rw [replaced_of_ne T t hj]
    exact (hother j hj).refersTo (h.refers j)

section

variable {l : LinkId} {k : Link} {T : TagId → Tag}

theorem Refs.posted (h : Refs l k T) (hroom : k.sch.txq.length < 16) (p : Posted) :
    Refs l { k with sch := { k.sch with txq := k.sch.txq ++ [.posted p] } } T := by
  refine ⟨by simpa using hroom, fun i => SamePlace.refersTo ?_ (h.refers i), h.up⟩
  exact ⟨by simp, rfl, rfl, fun _ => Iff.rfl, fun _ hg => hg, fun hhead _ => LinkFits.head?_append_of_some _ hhead⟩

theorem Refs.tagged (h : Refs l k T) (hup : k.ctl.state = .up) (hroom : k.sch.txq.length < 16) {i : TagId} {t : Tag}
    (hfree : (T i).state = .free) (hl : t.link = l) (ht : t.state = .queued) :
    Refs l { k with sch := { k.sch with txq := k.sch.txq ++ [.ref i] } } (replaced T i t) := by
  have haway {st : TagState} (hst : st ≠ .free) : (T i).link ≠ l ∨ (T i).state ≠ st :=
    .inr (hfree ▸ hst.symm)
  have hi := h.refers i
  refine h.change hup (by simpa using hroom) (fun j hj => ?_) ⟨?_, ?_, ?_, fun g _ _ => ?_, fun g hg => ?_⟩
  · exact ⟨by simp [hj.symm], rfl, rfl, fun _ => Iff.rfl, fun _ hg => hg,
      fun hhead _ => LinkFits.head?_append_of_some _ hhead⟩
  · have hcount := List.count_eq_zero.mpr (not_mem_txq hi (haway (by decide)))
    simp [hl, ht, hcount]
  · simpa [ht] using List.count_eq_zero.mpr (not_mem_ready hi (haway (by decide)))
  · simpa [ht] using List.count_eq_zero.mpr (not_mem_resend hi (haway (by decide)))
  · simp [ht]
  · exact absurd hg (headOnLine_ne hi (haway (by decide)) g)

/-- A tag in AWAIT joins the resend order. -/
theorem Refs.resent (h : Refs l k T) {i : TagId} {t : Tag} (hawait : (T i).state = .await) (hold : (T i).link = l)
    (hl : t.link = l) (ht : t.state = .resend) :
    Refs l { k with sch := { k.sch with resend := k.sch.resend ++ [i] } } (replaced T i t) := by
  have hi := h.refers i
  have hup := h.up i hold (inFlight_iff.mpr (by simp [hawait]))
  have hline := resendOnLine_ne hi hold (.inl hawait)
  refine h.change hup h.room (fun j hj => ?_) ⟨?_, ?_, ?_, fun g hg _ => absurd hg (hline g), fun g hg => ?_⟩
  · exact ⟨rfl, rfl, by simp [hj.symm], fun _ => Iff.rfl, fun _ hg => hg, fun hhead _ => hhead⟩
  · simpa [ht] using List.count_eq_zero.mpr (not_mem_txq hi (.inr (by simp [hawait])))
  · simpa [ht] using List.count_eq_zero.mpr (not_mem_ready hi (.inr (by simp [hawait])))
  · have hcount := List.count_eq_zero.mpr (not_mem_resend hi (.inr (by simp [hawait])))
    have hnone : k.resendOnLine.map (·.1) ≠ some i := fun hs => by
      obtain ⟨g, hg⟩ := map_fst_eq_some.mp hs
      exact hline g hg
    rw [if_pos ⟨hl, ht, hnone⟩]
    simp [hcount]
  · exact absurd hg (headOnLine_ne hi (.inr (by simp [hawait])) g)

/-- A tag in DEFERRED joins the ready-deferred list. -/
theorem Refs.readied (h : Refs l k T) {i : TagId} {t : Tag} (hdeferred : (T i).state = .deferred)
    (hold : (T i).link = l) (hl : t.link = l) (ht : t.state = .ready) :
    Refs l { k with sch := { k.sch with ready := k.sch.ready ++ [i] } } (replaced T i t) := by
  have hi := h.refers i
  have hup := h.up i hold (inFlight_iff.mpr (by simp [hdeferred]))
  have hline := resendOnLine_ne hi hold (.inr (.inl hdeferred))
  refine h.change hup h.room (fun j hj => ?_) ⟨?_, ?_, ?_, fun g hg _ => absurd hg (hline g), fun g hg => ?_⟩
  · exact ⟨rfl, by simp [hj.symm], rfl, fun _ => Iff.rfl, fun _ hg => hg, fun hhead _ => hhead⟩
  · simpa [ht] using List.count_eq_zero.mpr (not_mem_txq hi (.inr (by simp [hdeferred])))
  · have hcount := List.count_eq_zero.mpr (not_mem_ready hi (.inr (by simp [hdeferred])))
    simp [hl, ht, hcount]
  · simpa [ht] using List.count_eq_zero.mpr (not_mem_resend hi (.inr (by simp [hdeferred])))
  · exact absurd hg (headOnLine_ne hi (.inr (by simp [hdeferred])) g)

/-- A tag in AWAIT is deferred: it has no place before or after. -/
theorem Refs.deferred (h : Refs l k T) {i : TagId} {t : Tag} (hawait : (T i).state = .await) (hold : (T i).link = l)
    (ht : t.state = .deferred) : Refs l k (replaced T i t) := by
  have hi := h.refers i
  have hup := h.up i hold (inFlight_iff.mpr (by simp [hawait]))
  refine h.change hup h.room (fun j _ => samePlace_of_sch rfl rfl rfl rfl j) ?_
  exact refersTo_of_absent (not_mem_txq hi (.inr (by simp [hawait]))) (not_mem_ready hi (.inr (by simp [hawait])))
    (not_mem_resend hi (.inr (by simp [hawait]))) (headOnLine_ne hi (.inr (by simp [hawait]))) (by simp [ht])
    fun _ => ⟨by simp [ht], fun g hg => absurd hg (resendOnLine_ne hi hold (.inl hawait) g)⟩

/-! ### Re-entry from the ready-deferred list (R31) -/

theorem count_take_add_drop (q : List TagId) (n : Nat) (i : TagId) :
    (q.take n).count i + (q.drop n).count i = q.count i := by
  rw [← List.count_append, List.take_append_drop]

theorem Refs.refilled (h : Refs l k T) : Refs l { k with sch := { k.sch with
      txq := k.sch.txq ++ (k.sch.ready.take k.freeSlots).map .ref
      ready := k.sch.ready.drop k.freeSlots } }
    (fun i => if i ∈ k.sch.ready.take k.freeSlots then { T i with state := .queued } else T i) := by
  have hmap (i : TagId) : ((k.sch.ready.take k.freeSlots).map QEntry.ref).count (.ref i) =
      (k.sch.ready.take k.freeSlots).count i :=
    List.count_map_of_injective _ _ (fun _ _ => QEntry.ref.inj) _
  refine ⟨?_, fun i => ?_, fun i hl hf => ?_⟩
  · have hroom := h.room
    simp only [List.length_append, List.length_map, List.length_take, Link.freeSlots, Config.txQueueCapacity]
    omega
  · have hi := h.refers i
    have hsplit := count_take_add_drop k.sch.ready k.freeSlots i
    dsimp only
    split
    next hmem =>
      obtain ⟨hl, hready⟩ := of_mem_ready hi (List.mem_of_mem_take hmem)
      have hone : k.sch.ready.count i = 1 := by rw [hi.2.1, if_pos ⟨hl, hready⟩]
      have hpos := List.count_pos_iff.mpr hmem
      have hzero := List.count_eq_zero.mpr (not_mem_txq hi (.inr (by simp [hready])))
      refine ⟨?_, ?_, ?_, fun g _ _ => by simp, fun g hg => ?_⟩
      · rw [if_pos ⟨hl, rfl⟩, List.count_append, hzero, hmap]
        omega
      · rw [if_neg (by simp)]
        show (k.sch.ready.drop k.freeSlots).count i = 0
        omega
      · simpa using List.count_eq_zero.mpr (not_mem_resend hi (.inr (by simp [hready])))
      · exact absurd hg (headOnLine_ne hi (.inr (by simp [hready])) g)
    next hmem =>
      have hzero := List.count_eq_zero.mpr hmem
      refine SamePlace.refersTo (k := k) ⟨?_, ?_, rfl, fun _ => Iff.rfl, fun _ hg => hg,
        fun hhead _ => LinkFits.head?_append_of_some _ hhead⟩ hi
      · rw [List.count_append, hmap, hzero, Nat.add_zero]
      · show (k.sch.ready.drop k.freeSlots).count i = _
        omega
  · dsimp only at hl hf
    split at hl
    next hmem =>
      obtain ⟨-, hready⟩ := of_mem_ready (h.refers i) (List.mem_of_mem_take hmem)
      exact h.up i hl (inFlight_iff.mpr (by simp [hready]))
    next hmem =>
      rw [if_neg hmem] at hf
      exact h.up i hl hf

/-! ### Request frames on the line -/

theorem resendOnLine_eq_some {i : TagId} {g : Gen} : k.resendOnLine = some (i, g) ↔
    ∃ f, k.sch.tx = .sending f .resend ∧ f.request = some (i, g) := by
  unfold Link.resendOnLine
  constructor
  · intro h
    split at h
    next htx => cases h; exact ⟨_, htx, rfl⟩
    next htx => cases h; exact ⟨_, htx, rfl⟩
    next => cases h
  · rintro ⟨f, htx, hf⟩
    rw [htx]
    cases f <;> cases hf <;> rfl

theorem headOnLine_eq_some {i : TagId} {g : Gen} : k.headOnLine = some (i, g) ↔
    ∃ f, k.sch.tx = .sending f (.queueHead true) ∧ f.request = some (i, g) := by
  unfold Link.headOnLine
  constructor
  · intro h
    split at h
    next htx => cases h; exact ⟨_, htx, rfl⟩
    next htx => cases h; exact ⟨_, htx, rfl⟩
    next => cases h
  · rintro ⟨f, htx, hf⟩
    rw [htx]
    cases f <;> cases hf <;> rfl

/-- No request frame of the resend order, and none of a held queue entry, is on the line. -/
def NoRequest (k : Link) : Prop := k.resendOnLine = none ∧ k.headOnLine = none

theorem noRequest_of_tx (h : ∀ f src, k.sch.tx = .sending f src →
    f.request = none ∨ src ≠ .resend ∧ src ≠ .queueHead true) : NoRequest k := by
  constructor <;> refine Option.eq_none_iff_forall_ne_some.mpr fun ⟨i, g⟩ hg => ?_
  · obtain ⟨f, htx, hf⟩ := resendOnLine_eq_some.mp hg
    obtain hnone | ⟨hsrc, -⟩ := h f _ htx
    · cases hnone.symm.trans hf
    · exact hsrc rfl
  · obtain ⟨f, htx, hf⟩ := headOnLine_eq_some.mp hg
    obtain hnone | ⟨-, hsrc⟩ := h f _ htx
    · cases hnone.symm.trans hf
    · exact hsrc rfl

theorem noRequest_of_idle (h : k.sch.tx = .idle) : NoRequest k :=
  noRequest_of_tx fun _ _ hf => Transmitter.noConfusion (h.symm.trans hf)

theorem request_requestFrame (i : TagId) (t : Tag) : (requestFrame i t).request = some (i, t.gen) := by
  unfold requestFrame
  cases t.kind <;> rfl

/-- The line of the link changes between frames that are no requests, with every collection kept. -/
theorem Refs.line (h : Refs l k T) {k' : Link} (hold : NoRequest k) (hnew : NoRequest k')
    (htxq : k'.sch.txq = k.sch.txq) (hready : k'.sch.ready = k.sch.ready) (hresend : k'.sch.resend = k.sch.resend)
    (hstate : k'.ctl.state = k.ctl.state) : Refs l k' T := by
  refine ⟨htxq ▸ h.room, fun i => SamePlace.refersTo ?_ (h.refers i), fun i hl hf => hstate.trans (h.up i hl hf)⟩
  exact ⟨by rw [htxq], by rw [hready], by rw [hresend], fun g => by rw [hold.1, hnew.1],
    fun g hg => of_none_of_some hnew.2 hg, fun hhead _ => htxq ▸ hhead⟩

/-! ### The pick -/

theorem Refs.sendResend (h : Refs l k T) (hidle : k.sch.tx = .idle) {i : TagId} (hi : i ∈ k.sch.resend) :
    Refs l { k with sch := { k.sch with
      resend := k.sch.resend.erase i, tx := .sending (requestFrame i (T i)) .resend } } T := by
  obtain ⟨hresend, hhead⟩ := noRequest_of_idle hidle
  obtain ⟨hl, hstate⟩ := of_mem_resend (h.refers i) hi
  generalize hk : ({ k with sch := { k.sch with
    resend := k.sch.resend.erase i, tx := .sending (requestFrame i (T i)) .resend } } : Link) = k'
  have hline : k'.resendOnLine = some (i, (T i).gen) :=
    resendOnLine_eq_some.mpr ⟨_, by rw [← hk], request_requestFrame ..⟩
  have hnone : k'.headOnLine = none := by
    rw [← hk]
    refine Option.eq_none_iff_forall_ne_some.mpr fun ⟨j, g⟩ hg => ?_
    obtain ⟨f, htx, -⟩ := headOnLine_eq_some.mp hg
    exact Source.noConfusion (Transmitter.sending.inj htx).2
  refine ⟨hk ▸ h.room, fun j => ?_, fun j hj hf => by rw [← hk]; exact h.up j hj hf⟩
  by_cases hj : j = i
  · subst hj
    obtain ⟨htxq, hready, hcount, -, -⟩ := h.refers j
    refine ⟨hk ▸ htxq, hk ▸ hready, ?_, fun g hg _ => ?_, fun g hg => of_none_of_some hnone hg⟩
    · rw [hline, if_neg (by simp), ← hk]
      rw [hresend, if_pos ⟨hl, hstate, by simp⟩] at hcount
      simp [List.count_erase_self, hcount]
    · rw [hline] at hg
      cases hg
      simp [hstate]
  · refine SamePlace.refersTo ⟨by rw [← hk], by rw [← hk], ?_, fun g => ?_, fun g hg => ?_,
        fun hg _ => by rw [← hk]; exact hg⟩
      (h.refers j)
    · rw [← hk]
      exact List.count_erase_of_ne hj
    · rw [hline, hresend]
      simp [Ne.symm hj]
    · rw [hnone] at hg
      cases hg

theorem Refs.sendHead (h : Refs l k T) (hidle : k.sch.tx = .idle) {i : TagId} {rest : List QEntry}
    (htxq : k.sch.txq = .ref i :: rest) : Refs l (k.send (requestFrame i (T i)) (.queueHead true)) T := by
  obtain ⟨hresend, -⟩ := noRequest_of_idle hidle
  obtain ⟨hl, hstate⟩ := of_mem_txq (h.refers i) (htxq ▸ List.mem_cons_self)
  have hnone : (k.send (requestFrame i (T i)) (.queueHead true)).resendOnLine = none := by
    refine Option.eq_none_iff_forall_ne_some.mpr fun ⟨j, g⟩ hg => ?_
    obtain ⟨f, htx, -⟩ := resendOnLine_eq_some.mp hg
    exact Source.noConfusion (Transmitter.sending.inj htx).2
  refine ⟨h.room, fun j => ?_, h.up⟩
  obtain ⟨hcount, hready, hcount', -, -⟩ := h.refers j
  rw [hresend] at hcount'
  refine ⟨hcount, hready, ?_, fun g hg => of_none_of_some hnone hg, fun g hg => ?_⟩
  · rw [hnone]
    exact hcount'
  · obtain ⟨f, htx, hf⟩ := headOnLine_eq_some.mp hg
    rw [← (Transmitter.sending.inj htx).1, request_requestFrame] at hf
    cases hf
    exact ⟨rfl, hl, hstate, by simp [Link.send, htxq]⟩

theorem Refs.pickTraffic {tags : Vector Tag 32} (h : Refs l k (fun i => tags[i])) (hidle : k.sch.tx = .idle) :
    Refs l (pickTraffic tags k) (fun i => tags[i]) := by
  have hold := noRequest_of_idle hidle
  have hplain {k' : Link} {seq : Seq} {p : Posted} {src : Source} (htx : k'.sch.tx = .sending (writeFrame seq p) src) :
      NoRequest k' := noRequest_of_tx fun f src hf => .inl (by
    rw [← (Transmitter.sending.inj (htx.symm.trans hf)).1]; rfl)
  unfold Machine.pickTraffic
  split
  next => exact h.line hold (hplain rfl) rfl rfl rfl rfl
  split
  next hchoice => exact h.sendResend hidle (List.mem_of_find?_eq_some hchoice)
  split
  next hhead =>
    unfold headFrame at hhead
    split at hhead
    · cases hhead
    · split at hhead
      · cases hhead
        exact h.line hold (hplain rfl) rfl rfl rfl rfl
      · cases hhead
    next htxq =>
      split at hhead
      · cases hhead
      · cases hhead
        exact h.sendHead hidle htxq
  next => exact h

theorem Refs.pick {tags : Vector Tag 32} (h : Refs l k (fun i => tags[i])) :
    Refs l (pick tags k) (fun i => tags[i]) := by
  have hcontrol {k' : Link} {f : TxFrame} (htx : k'.sch.tx = .sending f .control) : NoRequest k' :=
    noRequest_of_tx fun g src hg => .inr (by
      rw [← (Transmitter.sending.inj (htx.symm.trans hg)).2]; exact ⟨Source.noConfusion, Source.noConfusion⟩)
  unfold Machine.pick
  split
  next hidle =>
    have hold := noRequest_of_idle hidle
    split
    next =>
      unfold pickUp
      split
      · exact h.line hold (hcontrol rfl) rfl rfl rfl rfl
      split
      · exact h.line hold (hcontrol rfl) rfl rfl rfl rfl
      · exact h.line hold (hcontrol rfl) rfl rfl rfl rfl
      split
      · exact h
      · exact h.pickTraffic hidle
    next =>
      unfold pickTraining
      split
      · exact h.line hold (hcontrol rfl) rfl rfl rfl rfl
      · exact h
    next => exact h
    next => exact h
  next => exact h

/-! ### Completion -/

theorem dropTag_resendOnLine (i : TagId) : (k.dropTag i).resendOnLine = k.resendOnLine := by
  rcases LinkFits.dropTag_tx i k with hsame | ⟨f, held, hf, hdropped⟩
  · simp only [Link.resendOnLine, hsame]
  · simp only [Link.resendOnLine, hf, hdropped]

/-- A frame of a held entry on the line after a completion is one of another tag. -/
theorem dropTag_headOnLine {i j : TagId} {g : Gen} (h : (k.dropTag i).headOnLine = some (j, g)) :
    k.headOnLine = some (j, g) ∧ k.sch.txq.head? ≠ some (.ref i) := by
  obtain ⟨f, htx, hf⟩ := headOnLine_eq_some.mp h
  simp only [Link.dropTag] at htx
  split at htx
  next f' held hbefore =>
    obtain ⟨rfl, hheld⟩ := Transmitter.sending.inj htx
    simp only [Source.queueHead.injEq, Bool.and_eq_true, decide_eq_true_eq] at hheld
    obtain ⟨rfl, hne⟩ := hheld
    exact ⟨headOnLine_eq_some.mpr ⟨f', hbefore, hf⟩, hne⟩
  next hno => exact absurd htx (hno f true)

theorem Refs.completed (h : Refs l k T) {i : TagId} {t : Tag} (hold : (T i).link = l)
    (hflight : (T i).inFlight = true) (ht : t.state = .complete) : Refs l (k.dropTag i) (replaced T i t) := by
  have hi := h.refers i
  refine h.change (h.up i hold hflight) ((List.length_filter_le _ _).trans h.room) (fun j hj => ?_) ?_
  · refine ⟨?_, ?_, ?_, fun g => by rw [dropTag_resendOnLine], fun g hg => (dropTag_headOnLine hg).1, fun hhead _ => ?_⟩
    · exact List.count_filter (by simpa using hj)
    · exact List.count_filter (by simpa using hj)
    · exact List.count_filter (by simpa using hj)
    · obtain ⟨rest, hrest⟩ := List.head?_eq_some_iff.mp hhead
      simp [Link.dropTag, hrest, hj]
  · refine refersTo_of_absent (by simp [Link.dropTag]) (by simp [Link.dropTag]) (by simp [Link.dropTag])
      (fun g hg => ?_) (by simp [ht]) (fun _ => by simp [ht])
    obtain ⟨hline, hne⟩ := dropTag_headOnLine hg
    obtain ⟨-, -, -, -, hhead⟩ := hi
    obtain ⟨-, -, -, hfirst⟩ := hhead g hline
    exact hne hfirst

/-! ### Ends of transmissions -/

/-- A frame leaves the line that leaves no tag without its place. -/
theorem Refs.txFree (h : Refs l k T)
    (hline : ∀ i g, k.resendOnLine = some (i, g) → (T i).link = l → (T i).state ≠ .resend) :
    Refs l k.txFree T := by
  obtain ⟨hresend, hhead⟩ := noRequest_of_idle (k := k.txFree) rfl
  refine ⟨h.room, fun i => ?_, h.up⟩
  obtain ⟨htxq, hready, hcount, -, -⟩ := h.refers i
  refine ⟨htxq, hready, ?_, fun g hg => of_none_of_some hresend hg, fun g hg => of_none_of_some hhead hg⟩
  rw [hresend]
  refine hcount.trans ?_
  by_cases hs : (T i).link = l ∧ (T i).state = .resend
  · have hne : k.resendOnLine.map (·.1) ≠ some i := fun hsome => by
      obtain ⟨g, hg⟩ := map_fst_eq_some.mp hsome
      exact hline i g hg hs.1 hs.2
    rw [if_pos ⟨hs.1, hs.2, hne⟩, if_pos ⟨hs.1, hs.2, by simp⟩]
  · rw [if_neg fun hno => hs ⟨hno.1, hno.2.1⟩, if_neg fun hno => hs ⟨hno.1, hno.2.1⟩]

/-- The request frame that ends is of the resend order, and its tag enters AWAIT. -/
theorem Refs.endResend (h : Refs l k T) {i : TagId} {g : Gen} (hline : k.resendOnLine = some (i, g)) {t : Tag}
    (hold : (T i).link = l) (hstate : (T i).state = .resend) (ht : t.state = .await) :
    Refs l k.txFree (replaced T i t) := by
  obtain ⟨hresend, hhead⟩ := noRequest_of_idle (k := k.txFree) rfl
  have hi := h.refers i
  have hup := h.up i hold (inFlight_iff.mpr (by simp [hstate]))
  refine h.change hup h.room (fun j hj => ?_) ?_
  · refine ⟨rfl, rfl, rfl, fun g' => ?_, fun g' hg => of_none_of_some hhead hg, fun hfirst _ => hfirst⟩
    rw [hresend, hline]
    simp [Ne.symm hj]
  · have hgone : i ∉ k.sch.resend := by
      obtain ⟨-, -, hcount, -⟩ := hi
      rw [hline, if_neg (by simp)] at hcount
      exact List.count_eq_zero.mp hcount
    have hqueue : QEntry.ref i ∉ k.sch.txq := not_mem_txq hi (.inr (by simp [hstate]))
    have hready : i ∉ k.sch.ready := not_mem_ready hi (.inr (by simp [hstate]))
    exact refersTo_of_absent hqueue hready hgone (fun g' hg => of_none_of_some hhead hg) (by simp [ht])
      fun _ => ⟨by simp [ht], fun g' hg => of_none_of_some hresend hg⟩

/-- The request frame that ends is of the queue head, whose entry leaves the queue; its tag enters AWAIT. -/
theorem Refs.endQueued (h : Refs l k T) {i : TagId} {rest : List QEntry} (htxq : k.sch.txq = .ref i :: rest)
    (hnone : k.resendOnLine = none) {t : Tag} (ht : t.state = .await) :
    Refs l k.txFree.headLeaves (replaced T i t) := by
  obtain ⟨hresend, hhead⟩ := noRequest_of_idle (k := k.txFree.headLeaves) rfl
  have hi := h.refers i
  obtain ⟨hold, hstate⟩ := of_mem_txq hi (htxq ▸ List.mem_cons_self)
  have hup := h.up i hold (inFlight_iff.mpr (by simp [hstate]))
  have hrest : k.txFree.headLeaves.sch.txq = rest := by simp [Link.headLeaves, Link.txFree, htxq]
  have hroom := h.room
  rw [htxq, List.length_cons] at hroom
  refine h.change hup (by rw [hrest]; omega) (fun j hj => ?_) ?_
  · refine ⟨?_, rfl, rfl, fun g => by rw [hresend, hnone], fun g hg => of_none_of_some hhead hg,
      fun _ hsome => absurd hsome (by rw [hhead]; decide)⟩
    rw [hrest, htxq]
    simp [hj.symm]
  · have hgone : QEntry.ref i ∉ rest := by
      obtain ⟨hcount, -⟩ := hi
      rw [htxq, List.count_cons_self, if_pos ⟨hold, hstate⟩] at hcount
      exact List.count_eq_zero.mp (by omega)
    have hready : i ∉ k.sch.ready := not_mem_ready hi (.inr (by simp [hstate]))
    have hresent : i ∉ k.sch.resend := not_mem_resend hi (.inr (by simp [hstate]))
    exact refersTo_of_absent (hrest ▸ hgone) hready hresent (fun g hg => of_none_of_some hhead hg) (by simp [ht])
      fun _ => ⟨by simp [ht], fun g hg => of_none_of_some hresend hg⟩

/-- A posted write leaves the head of the queue at the end of its transmission. -/
theorem Refs.postedLeaves (h : Refs l k T) {p : Posted} {rest : List QEntry} (htxq : k.sch.txq = .posted p :: rest)
    (hnone : NoRequest k) {k' : Link} (hidle : k'.sch.tx = .idle) (hrest : k'.sch.txq = rest)
    (hready : k'.sch.ready = k.sch.ready) (hresend : k'.sch.resend = k.sch.resend)
    (hstate : k'.ctl.state = k.ctl.state) : Refs l k' T := by
  obtain ⟨hnew, hhead⟩ := noRequest_of_idle hidle
  have hroom := h.room
  rw [htxq, List.length_cons] at hroom
  refine ⟨by rw [hrest]; omega, fun i => SamePlace.refersTo ?_ (h.refers i), fun i hl hf => hstate.trans (h.up i hl hf)⟩
  refine ⟨by rw [hrest, htxq]; simp, by rw [hready], by rw [hresend], fun g => by rw [hnew, hnone.1],
    fun g hg => of_none_of_some hhead hg, fun _ hsome => absurd hsome (by rw [hhead]; decide)⟩

/-! ### An empty link -/

/-- A link with empty collections and no request on its line, to which no tag in flight belongs. -/
theorem refs_of_empty (htxq : k.sch.txq = []) (hready : k.sch.ready = []) (hresend : k.sch.resend = [])
    (hnone : NoRequest k) (haway : ∀ i, Away l (T i)) : Refs l k T := by
  refine ⟨by simp [htxq], fun i => ?_, fun i hl hf => ?_⟩
  · refine refersTo_of_absent (by simp [htxq]) (by simp [hready]) (by simp [hresend])
      (fun g hg => of_none_of_some hnone.2 hg) (fun hl => ?_) (fun hl => ?_) <;>
    rcases (haway i).states hl with hs | hs <;> rw [hs] <;> simp
  · exact absurd hf (by simp [(haway i).resolve_left (not_not_intro hl)])

end

end Sys2Proof.Proofs.References
end

section
/-! The tag records and the completion records (R1, R2, R20): how each operation on tags keeps them. -/

namespace Sys2Proof.Proofs.Records

open Sys2Proof Sys2Proof.Machine Sys2Proof.Laws Sys2Proof.Proofs.Inversion Sys2Proof.Proofs.LinkStates
  Sys2Proof.Proofs.References

/-! ### One tag -/

/-- The invariants of a tag that read the tag alone. -/
structure TagFit (t : Tag) : Prop where
  counts : t.CountsLegal
  timer : t.timerFits = true
  result : t.result.isSome ↔ t.state = .complete

theorem timerFits_of_stopped {t : Tag} (h : t.timer = .stopped) :
    t.timerFits = true ↔ t.state ≠ .await ∧ t.state ≠ .deferred := by
  unfold Tag.timerFits
  rw [h]
  cases t.state <;> decide

theorem TagFit.timer_stopped {t : Tag} (h : TagFit t) (ha : t.state ≠ .await) (hd : t.state ≠ .deferred) :
    t.timer = .stopped := by
  have hfits := h.timer
  unfold Tag.timerFits at hfits
  split at hfits <;> simp_all

theorem TagFit.result_none {t : Tag} (h : TagFit t) (hc : t.state ≠ .complete) : t.result = none :=
  Option.not_isSome_iff_eq_none.mp fun hsome => hc (h.result.mp hsome)

theorem tagFit_completed {t : Tag} (r : Result) (ht : t.attempts ≤ 255 ∧ t.busy ≤ 255 ∧ t.timeouts ≤ 8) :
    TagFit (t.completed r) :=
  ⟨⟨ht.1, ht.2.1, ht.2.2, fun _ hc => absurd rfl hc⟩, (timerFits_of_stopped rfl).mpr ⟨by simp [Tag.completed],
    by simp [Tag.completed]⟩, by simp [Tag.completed]⟩

theorem TagFit.completed {t : Tag} (h : TagFit t) (r : Result) : TagFit (t.completed r) := by
  obtain ⟨ha, hb, hto, -⟩ := h.counts
  exact tagFit_completed r ⟨ha, hb, hto⟩

theorem TagFit.flushedOn {t : Tag} (h : TagFit t) (l : LinkId) (status : Status) : TagFit (t.flushedOn l status) := by
  unfold Tag.flushedOn
  split
  · exact h.completed _
  · exact h

theorem TagFit.freed {t : Tag} (h : TagFit t) : TagFit t.freed := by
  obtain ⟨ha, hb, hto, -⟩ := h.counts
  exact ⟨⟨ha, hb, hto, fun hf => absurd rfl hf⟩, (timerFits_of_stopped rfl).mpr ⟨by simp [Tag.freed],
    by simp [Tag.freed]⟩, by simp [Tag.freed]⟩

theorem tagFit_allocated (t : Tag) (kind : ReqKind) (target : Target) (a : Addr) (w : Word) :
    TagFit (t.allocated kind target a w) :=
  ⟨⟨Nat.zero_le _, Nat.zero_le _, Nat.zero_le _, fun _ _ => Nat.zero_le _⟩, (timerFits_of_stopped rfl).mpr
    ⟨by simp [Tag.allocated], by simp [Tag.allocated]⟩, by simp [Tag.allocated]⟩

/-- A tag in flight goes on to a state without a timer. -/
theorem TagFit.moved {t : Tag} (h : TagFit t) (hf : t.inFlight = true) {state : TagState}
    (hstate : state = .queued ∨ state = .ready) : TagFit { t with state := state, timer := .stopped } := by
  obtain ⟨hfree, hcomplete⟩ := inFlight_iff.mp hf
  obtain ⟨ha, hb, hto, hlow⟩ := h.counts
  refine ⟨⟨ha, hb, hto, fun _ _ => hlow hfree hcomplete⟩, (timerFits_of_stopped rfl).mpr ?_, ?_⟩
  · rcases hstate with rfl | rfl <;> simp
  · rw [show ({ t with state := state, timer := .stopped } : Tag).result = none from h.result_none hcomplete]
    rcases hstate with rfl | rfl <;> simp

/-- A READY tag enters the transmit queue. -/
theorem TagFit.queued {t : Tag} (h : TagFit t) (hready : t.state = .ready) : TagFit { t with state := .queued } := by
  have hmoved := h.moved (by simp [Tag.inFlight, hready]) (state := .queued) (.inl rfl)
  rwa [← h.timer_stopped (by simp [hready]) (by simp [hready])] at hmoved

theorem TagFit.transmitted {t : Tag} (h : TagFit t) (hf : t.inFlight = true) (n : Nat) : TagFit (t.transmitted n) := by
  obtain ⟨hfree, hcomplete⟩ := inFlight_iff.mp hf
  obtain ⟨-, hb, hto, hlow⟩ := h.counts
  exact ⟨⟨Nat.min_le_left _ _, hb, hto, fun _ _ => hlow hfree hcomplete⟩, rfl,
    by simp [Tag.transmitted, h.result_none hcomplete]⟩

theorem TagFit.resent {t : Tag} (h : TagFit t) (hf : t.inFlight = true) (hlimit : t.timeouts + 1 ≤ 7) :
    TagFit { t with timeouts := t.timeouts + 1, state := .resend, timer := .stopped } := by
  obtain ⟨-, hcomplete⟩ := inFlight_iff.mp hf
  obtain ⟨ha, hb, -, -⟩ := h.counts
  exact ⟨⟨ha, hb, hlimit.trans (by decide), fun _ _ => hlimit⟩, rfl, by simp [h.result_none hcomplete]⟩

theorem TagFit.deferred {t : Tag} (h : TagFit t) (hf : t.inFlight = true) (c : Countdown) :
    TagFit { t with busy := bump Config.byteMax t.busy, state := .deferred, timer := .retryDelay c } := by
  obtain ⟨hfree, hcomplete⟩ := inFlight_iff.mp hf
  obtain ⟨ha, -, hto, hlow⟩ := h.counts
  exact ⟨⟨ha, Nat.min_le_left _ _, hto, fun _ _ => hlow hfree hcomplete⟩, rfl, by simp [h.result_none hcomplete]⟩

theorem timerFits_tick (t : Tag) : ({ t with timer := t.timer.tick } : Tag).timerFits = t.timerFits := by
  unfold Tag.timerFits
  cases t.state <;> cases t.timer <;> rfl

theorem TagFit.tick {t : Tag} (h : TagFit t) : TagFit { t with timer := t.timer.tick } :=
  ⟨h.counts, (timerFits_tick t).trans h.timer, h.result⟩

/-! ### The completion records -/

/-- The completion records and the tags agree (R20). -/
def Recorded (cq : List CplRecord) (T : TagId → Tag) : Prop :=
  (∀ r ∈ cq, r.standsFor (T r.index)) ∧
  ∀ i : TagId, cq.countP (fun r => decide (r.index = i)) = if (T i).state = .complete then 1 else 0

theorem recordsAgree_iff {s : State} : RecordsAgree s ↔ Recorded s.cq s.tag := Iff.rfl

/-- Tags that no record belongs to change, or the timer of a tag. -/
theorem Recorded.retag {cq : List CplRecord} {T T' : TagId → Tag} (h : Recorded cq T)
    (hsame : ∀ i, T' i = { T i with timer := (T' i).timer } ∨
      (T i).state ≠ .complete ∧ (T' i).state ≠ .complete) : Recorded cq T' := by
  obtain ⟨hstands, hcount⟩ := h
  refine ⟨fun r hr => ?_, fun i => ?_⟩
  · obtain heq | ⟨hold, -⟩ := hsame r.index
    · rw [heq]
      exact hstands r hr
    · exact absurd (hstands r hr).1 hold
  · obtain heq | ⟨hold, hnew⟩ := hsame i
    · rw [heq]
      exact hcount i
    · rw [if_neg hnew]
      exact (hcount i).trans (if_neg hold)

/-- Records that change in their age counts alone. -/
def Aged : List CplRecord → List CplRecord → Prop := List.Forall₂ fun r r' => r' = { r with age := r'.age }

theorem Recorded.aged {cq cq' : List CplRecord} {T : TagId → Tag} (h : Recorded cq T) (haged : Aged cq cq') :
    Recorded cq' T := by
  obtain ⟨hstands, hcount⟩ := h
  have hlen (i : TagId) : cq'.countP (fun r => decide (r.index = i)) = cq.countP (fun r => decide (r.index = i)) := by
    clear hstands hcount
    induction haged with
    | nil => rfl
    | cons hr _ ih => rw [List.countP_cons, List.countP_cons, ih, hr]
  refine ⟨fun r' hr' => ?_, fun i => (hlen i).trans (hcount i)⟩
  obtain ⟨r, hr, heq⟩ : ∃ r ∈ cq, r' = { r with age := r'.age } := by
    clear hstands hcount hlen
    induction haged with
    | nil => cases hr'
    | cons heq _ ih =>
      cases hr' with
      | head => exact ⟨_, List.mem_cons_self, heq⟩
      | tail _ hmem =>
        obtain ⟨r, hr, hr'⟩ := ih hmem
        exact ⟨r, List.mem_cons_of_mem _ hr, hr'⟩
  obtain ⟨hstate, res, hres, hfields⟩ := hstands r hr
  rw [heq]
  exact ⟨hstate, res, hres, congrArg (fun x : CplRecord => { x with age := r'.age }) hfields⟩

theorem aged_refl (cq : List CplRecord) : Aged cq cq := by
  induction cq with
  | nil => exact .nil
  | cons r rest ih => exact .cons rfl ih

theorem aged_map {f : CplRecord → CplRecord} (hf : ∀ r, f r = { r with age := (f r).age }) (cq : List CplRecord) :
    Aged cq (cq.map f) := by
  induction cq with
  | nil => exact .nil
  | cons r rest ih => exact .cons (hf r) ih

theorem aged_modify {f : CplRecord → CplRecord} (hf : ∀ r, f r = { r with age := (f r).age }) (cq : List CplRecord)
    (n : Nat) : Aged cq (cq.modify n f) := by
  induction cq generalizing n with
  | nil => cases n <;> exact .nil
  | cons r rest ih =>
    cases n with
    | zero => exact .cons (hf r) (aged_refl rest)
    | succ n => exact .cons rfl (ih n)

theorem standsFor_recordOf (i : TagId) (t : Tag) (r : Result) : (recordOf i t r).standsFor (t.completed r) :=
  ⟨rfl, r, rfl, rfl⟩

/-- Tags complete, each with its record at the tail. -/
theorem Recorded.completed {cq : List CplRecord} {T : TagId → Tag} (h : Recorded cq T) {ids : List TagId}
    (hnodup : ids.Nodup) (hopen : ∀ i ∈ ids, (T i).state ≠ .complete) (U : TagId → Tag) (r : Result) :
    Recorded (cq ++ ids.map (fun i => recordOf i (U i) r)) (fun i => if i ∈ ids then (U i).completed r else T i) := by
  obtain ⟨hstands, hcount⟩ := h
  refine ⟨fun x hx => ?_, fun i => ?_⟩
  · obtain hold | hnew := List.mem_append.mp hx
    · have hnot : x.index ∉ ids := fun hin => hopen _ hin (hstands x hold).1
      simpa [hnot] using hstands x hold
    · obtain ⟨i, hi, rfl⟩ := List.mem_map.mp hnew
      have hindex : (recordOf i (U i) r).index = i := rfl
      simpa [hindex, hi] using standsFor_recordOf i (U i) r
  · have hmap : (ids.map (fun i => recordOf i (U i) r)).countP (fun x => decide (x.index = i)) = ids.count i := by
      rw [List.countP_map, List.count]
      rfl
    rw [List.countP_append, hcount, hmap]
    by_cases hi : i ∈ ids
    · rw [List.count_eq_one_of_mem hnodup hi, if_neg (hopen i hi)]
      simp [hi, Tag.completed]
    · rw [List.count_eq_zero.mpr hi]
      simp [hi]

/-- The head record leaves with its tag. -/
theorem Recorded.popped {r : CplRecord} {rest : List CplRecord} {T : TagId → Tag} (h : Recorded (r :: rest) T)
    {t : Tag} (ht : t.state = .free) : Recorded rest (replaced T r.index t) := by
  obtain ⟨hstands, hcount⟩ := h
  have hnone : rest.countP (fun x => decide (x.index = r.index)) = 0 := by
    have hone := hcount r.index
    rw [if_pos (hstands r List.mem_cons_self).1, List.countP_cons_of_pos (by simp)] at hone
    omega
  refine ⟨fun x hx => ?_, fun i => ?_⟩
  · have hne : x.index ≠ r.index := by simpa using List.countP_eq_zero.mp hnone x hx
    rw [replaced_of_ne T t hne]
    exact hstands x (List.mem_cons_of_mem _ hx)
  · by_cases hi : i = r.index
    · subst hi
      rw [hnone, replaced_self, if_neg (by simp [ht])]
    · rw [replaced_of_ne T t hi, ← hcount i, List.countP_cons_of_neg (by simpa using Ne.symm hi)]

/-- No tag is in COMPLETE and there is no record. -/
theorem recorded_nil {T : TagId → Tag} (h : ∀ i, (T i).state ≠ .complete) : Recorded [] T :=
  ⟨fun _ hr => (List.not_mem_nil hr).elim, fun i => by rw [if_neg (h i)]; rfl⟩

end Sys2Proof.Proofs.Records
end

section
/-! A link at rest: with its transmitter IDLE nothing is eligible, and tags wait in its ready-deferred list only behind
a full queue (R31, R38). -/

namespace Sys2Proof.Proofs.Rest

open Sys2Proof Sys2Proof.Machine Sys2Proof.Laws Sys2Proof.Proofs.Inversion Sys2Proof.Proofs.References

/-- The head of the transmit queue is not eligible (R35, R53). -/
def HeadWaits (station : TagId → StationId) (k : Link) : Prop :=
  match k.sch.txq with
  | [] => True
  | .posted _ :: _ => ¬ (k.pst.replay.length < Config.replayCapacity ∧ k.pst.pass = .none)
  | .ref i :: _ => k.holdsBack (station i) = true

/-- No claimant that the outbound pause holds back has an eligible frame (R39). -/
def TrafficWaits (station : TagId → StationId) (k : Link) : Prop :=
  k.passEntry = none ∧ (∀ i ∈ k.sch.resend, k.holdsBack (station i) = true) ∧ HeadWaits station k

/-- The pick of the link takes nothing, by the stations that its tags are for (R39, R42). -/
def NothingEligible (station : TagId → StationId) (k : Link) : Prop :=
  match k.ctl.state with
  | .up => k.sch.helloAckPending = false ∧ k.sch.pendingPause = .none ∧
      (k.sch.outPause = true ∨ TrafficWaits station k)
  | .training => k.sch.helloDue = false
  | .off => True
  | .failed => True

/-- The stations of the tags of a table. -/
def stations (tags : Vector Tag 32) (i : TagId) : StationId := tags[i].station

theorem resendChoice_eq_none {tags : Vector Tag 32} {k : Link} :
    resendChoice tags k = none ↔ ∀ i ∈ k.sch.resend, k.holdsBack (stations tags i) = true := by
  simp [resendChoice, stations]

theorem headFrame_eq_none {tags : Vector Tag 32} {k : Link} :
    headFrame tags k = none ↔ HeadWaits (stations tags) k := by
  unfold headFrame HeadWaits
  split <;> simp [stations, *]

theorem not_idle_of_sending {tx : Transmitter} {f : TxFrame} {src : Source} (h : tx = .sending f src) : tx ≠ .idle :=
  fun hidle => Transmitter.noConfusion (h.symm.trans hidle)

/-- A pick among the traffic leaves the link as it is, with nothing eligible, or places a frame on the line. -/
theorem pickTraffic_cases (tags : Vector Tag 32) (k : Link) :
    pickTraffic tags k = k ∧ TrafficWaits (stations tags) k ∨
    ∃ f src, (pickTraffic tags k).sch.tx = .sending f src := by
  unfold pickTraffic
  split
  next => exact .inr ⟨_, _, rfl⟩
  next hpass =>
    split
    next => exact .inr ⟨_, _, rfl⟩
    next hresend =>
      split
      next => exact .inr ⟨_, _, rfl⟩
      next hhead => exact .inl ⟨rfl, hpass, resendChoice_eq_none.mp hresend, headFrame_eq_none.mp hhead⟩

theorem pick_cases (tags : Vector Tag 32) {k : Link} (hidle : k.sch.tx = .idle) :
    pick tags k = k ∧ NothingEligible (stations tags) k ∨ ∃ f src, (pick tags k).sch.tx = .sending f src := by
  unfold pick NothingEligible
  rw [if_pos hidle]
  cases k.ctl.state with
  | off => exact .inl ⟨rfl, trivial⟩
  | failed => exact .inl ⟨rfl, trivial⟩
  | training =>
    dsimp only [pickTraining]
    split
    next => exact .inr ⟨_, _, rfl⟩
    next hdue => exact .inl ⟨rfl, Bool.eq_false_iff.mpr hdue⟩
  | up =>
    dsimp only [pickUp]
    split
    next => exact .inr ⟨_, _, rfl⟩
    next hack =>
      split
      next => exact .inr ⟨_, _, rfl⟩
      next => exact .inr ⟨_, _, rfl⟩
      next hslot =>
        have hack' := Bool.eq_false_iff.mpr hack
        split
        next hpause => exact .inl ⟨rfl, hack', hslot, .inl hpause⟩
        next =>
          obtain ⟨hsame, hwaits⟩ | hsent := pickTraffic_cases tags k
          · exact .inl ⟨hsame, hack', hslot, .inr hwaits⟩
          · exact .inr hsent

theorem pick_eq_self_iff {tags : Vector Tag 32} {k : Link} (hidle : k.sch.tx = .idle) :
    pick tags k = k ↔ NothingEligible (stations tags) k := by
  constructor
  · intro hsame
    obtain ⟨-, hnothing⟩ | ⟨f, src, hsent⟩ := pick_cases tags hidle
    · exact hnothing
    · rw [hsame] at hsent
      exact absurd hidle (not_idle_of_sending hsent)
  · intro hnothing
    unfold NothingEligible at hnothing
    unfold pick
    rw [if_pos hidle]
    split at hnothing
    next hup =>
      obtain ⟨hack, hslot, htraffic⟩ := hnothing
      simp only [hup, pickUp, hack, hslot]
      split
      next => contradiction
      next =>
        split
        next => rfl
        next hpause =>
          obtain ⟨hpass, hresend, hhead⟩ := htraffic.resolve_left hpause
          simp only [pickTraffic, hpass, resendChoice_eq_none.mpr hresend, headFrame_eq_none.mpr hhead]
    next htraining => simp [htraining, pickTraining, hnothing]
    next hoff => simp [hoff]
    next hfailed => simp [hfailed]

/-- The stations matter for the tags that the link holds alone. -/
theorem NothingEligible.restation {station station' : TagId → StationId} {k : Link} (h : NothingEligible station k)
    (hresend : ∀ i ∈ k.sch.resend, station' i = station i)
    (hqueue : ∀ i, .ref i ∈ k.sch.txq → station' i = station i) : NothingEligible station' k := by
  unfold NothingEligible at h ⊢
  split at h
  next =>
    obtain ⟨hack, hslot, htraffic⟩ := h
    refine ⟨hack, hslot, htraffic.imp id fun ⟨hpass, hback, hhead⟩ => ⟨hpass, fun i hi => ?_, ?_⟩⟩
    · rw [hresend i hi]
      exact hback i hi
    · unfold HeadWaits at hhead ⊢
      split
      next => trivial
      next htxq => simpa [htxq] using hhead
      next htxq =>
        rw [hqueue _ (by rw [htxq]; exact List.mem_cons_self)]
        simpa [htxq] using hhead
  next => exact h
  next => trivial
  next => trivial

/-- A link at rest. -/
structure Rests (station : TagId → StationId) (k : Link) : Prop where
  idle : k.sch.tx = .idle → NothingEligible station k
  full : k.sch.ready ≠ [] → k.sch.txq.length = 16

theorem Rests.restation {station station' : TagId → StationId} {k : Link} (h : Rests station k)
    (hresend : ∀ i ∈ k.sch.resend, station' i = station i)
    (hqueue : ∀ i, .ref i ∈ k.sch.txq → station' i = station i) : Rests station' k :=
  ⟨fun hidle => (h.idle hidle).restation hresend hqueue, h.full⟩

/-- A link that is OFF or FAILED, with nothing in its ready-deferred list. -/
theorem rests_of_down {station : TagId → StationId} {k : Link} (hd : k.ctl.state = .off ∨ k.ctl.state = .failed)
    (hready : k.sch.ready = []) : Rests station k := by
  refine ⟨fun _ => ?_, fun hne => absurd hready hne⟩
  unfold NothingEligible
  rcases hd with hd | hd <;> rw [hd] <;> trivial

theorem rests_pick {tags : Vector Tag 32} {k : Link} (hfull : k.sch.ready ≠ [] → k.sch.txq.length = 16) :
    Rests (stations tags) (pick tags k) := by
  obtain ⟨htxq, hready, -, -⟩ := pick_sch tags k
  refine ⟨fun hidle => ?_, by rwa [htxq, hready]⟩
  by_cases hbefore : k.sch.tx = .idle
  · obtain ⟨hsame, hnothing⟩ | ⟨f, src, hsent⟩ := pick_cases tags hbefore
    · rwa [hsame]
    · exact absurd hidle (not_idle_of_sending hsent)
  · rw [pick_of_busy hbefore] at hidle
    exact absurd hidle hbefore

/-- After the re-entry from the ready-deferred list, tags are left in it behind a full queue alone. -/
theorem refilled_full {k : Link} (hroom : k.sch.txq.length ≤ 16) (hleft : k.sch.ready.drop k.freeSlots ≠ []) :
    (k.sch.txq ++ (k.sch.ready.take k.freeSlots).map QEntry.ref).length = 16 := by
  have hmore := List.length_pos_iff.mpr hleft
  simp only [List.length_drop, List.length_append, List.length_map, List.length_take, Link.freeSlots,
    Config.txQueueCapacity] at hmore ⊢
  omega

theorem rests_schedule {s : State} {l : LinkId} (hroom : (s.link l).sch.txq.length ≤ 16) :
    Rests (stations (refill s l).tags) ((schedule s l).link l) := by
  rw [schedule_link_self]
  refine rests_pick fun hleft => ?_
  rw [refill_link, if_pos rfl] at hleft ⊢
  exact refilled_full hroom hleft

end Sys2Proof.Proofs.Rest
end

section
/-! The invariants of tags, links and records together, and the states in which every link is at rest. -/

namespace Sys2Proof.Proofs.Invariant

open Sys2Proof Sys2Proof.Machine Sys2Proof.Laws Sys2Proof.Proofs.Inversion Sys2Proof.Proofs.LinkStates
  Sys2Proof.Proofs.LinkFits Sys2Proof.Proofs.References Sys2Proof.Proofs.Records Sys2Proof.Proofs.Rest

/-- The age counts of the records, and the lost counts they carry, are within their ranges (R71, R107, R108). -/
def AgesLegal (s : State) : Prop :=
  (∀ r ∈ s.cq, r.age.count ≤ 255) ∧ ∀ r ∈ s.eq, r.age.count ≤ 255 ∧ r.lostBefore ≤ 255

/-- The invariants of tags, links and records that hold in the middle of an event, before its pick. -/
structure Core (s : State) : Prop where
  tags : ∀ i, TagFit (s.tag i)
  links : ∀ l, LinkFit (s.link l)
  refs : ∀ l, Refs l (s.link l) s.tag
  records : Recorded s.cq s.tag
  ages : AgesLegal s

/-- The invariants of tags, links and records between events. -/
structure Inv (s : State) : Prop where
  core : Core s
  rests : ∀ l, Rests (stations s.tags) (s.link l)

/-! ### One link changes -/

section

variable {s t : State} {l : LinkId}

/-- One link changes, and tags that are of no concern to the others. -/
theorem Core.change (h : Core s) (hother : ∀ m, m ≠ l → t.link m = s.link m) (htags : ∀ i, TagFit (t.tag i))
    (hfit : LinkFit (t.link l)) (hrefs : Refs l (t.link l) t.tag)
    (haway : ∀ m, m ≠ l → ∀ i, t.tag i = s.tag i ∨ Away m (s.tag i) ∧ Away m (t.tag i))
    (hrecords : Recorded t.cq t.tag) (hages : AgesLegal t) : Core t := by
  refine ⟨htags, fun m => ?_, fun m => ?_, hrecords, hages⟩ <;> by_cases hm : m = l
  · exact hm ▸ hfit
  · exact hother m hm ▸ h.links m
  · exact hm ▸ hrefs
  · rw [hother m hm]
    exact (h.refs m).away (haway m hm)

/-- One link changes, and nothing else that the invariants read. -/
theorem Core.onLink (h : Core s) {k : Link} (htags : t.tags = s.tags) (hcq : t.cq = s.cq) (heq : t.eq = s.eq)
    (hlink : ∀ m, t.link m = if l = m then k else s.link m) (hfit : LinkFit k) (hrefs : Refs l k s.tag) : Core t := by
  have hself : t.link l = k := by rw [hlink, if_pos rfl]
  have htag : t.tag = s.tag := by
    funext i
    rw [State.tag, State.tag, htags]
  refine h.change (fun m hm => by rw [hlink, if_neg (Ne.symm hm)]) (htag ▸ h.tags) (hself ▸ hfit) (by rwa [hself, htag])
    (fun m _ i => .inl (by rw [htag])) (by rw [hcq, htag]; exact h.records) ?_
  simp only [AgesLegal, hcq, heq]
  exact h.ages

/-- Nothing changes that the invariants read. -/
theorem Core.congr (h : Core s) (htags : t.tags = s.tags) (hlinks : t.links = s.links) (hcq : t.cq = s.cq)
    (heq : t.eq = s.eq) : Core t := by
  have hlink (m : LinkId) : t.link m = s.link m := by rw [State.link, State.link, hlinks]
  refine h.onLink (l := 0) htags hcq heq (fun m => ?_) (h.links 0) (h.refs 0)
  rw [hlink]
  split
  next hm => rw [hm]
  next => rfl

/-- One tag and its link change: the tag is in flight on that link, or free, before, and in flight there after. -/
theorem Core.onTag (h : Core s) {i : TagId} {x : Tag} {k : Link} (htag : t.tag = replaced s.tag i x)
    (hlink : ∀ m, t.link m = if l = m then k else s.link m) (hcq : t.cq = s.cq) (heq : t.eq = s.eq)
    (hold : ∀ m, m ≠ l → Away m (s.tag i)) (hx : x.link = l) (hopen : (s.tag i).state ≠ .complete)
    (hstate : x.state ≠ .complete) (htagFit : TagFit x) (hfit : LinkFit k) (hrefs : Refs l k (replaced s.tag i x)) :
    Core t := by
  have hself : t.link l = k := by rw [hlink, if_pos rfl]
  have hcases (j : TagId) : j = i ∧ t.tag j = x ∨ t.tag j = s.tag j := by
    by_cases hj : j = i
    · exact .inl ⟨hj, by rw [htag, hj, replaced_self]⟩
    · exact .inr (by rw [htag, replaced_of_ne s.tag x hj])
  refine h.change (fun m hm => by rw [hlink, if_neg (Ne.symm hm)]) (fun j => ?_) (hself ▸ hfit) (by rwa [hself, htag])
    (fun m hm j => ?_) ?_ ?_
  · obtain ⟨-, hj⟩ | hj := hcases j <;> rw [hj]
    · exact htagFit
    · exact h.tags j
  · obtain ⟨rfl, hj⟩ | hj := hcases j
    · exact .inr ⟨hold m hm, hj ▸ .inl (hx ▸ Ne.symm hm)⟩
    · exact .inl hj
  · rw [hcq]
    refine h.records.retag fun j => ?_
    obtain ⟨rfl, hj⟩ | hj := hcases j
    · exact .inr ⟨hopen, hj ▸ hstate⟩
    · exact .inl (by rw [hj])
  · simp only [AgesLegal, hcq, heq]
    exact h.ages

end

/-! ### The end of an event -/

theorem Core.refill {s : State} (h : Core s) (l : LinkId) : Core (refill s l) := by
  have hready {i : TagId} (hi : i ∈ (s.link l).sch.ready.take (s.link l).freeSlots) :
      (s.tag i).link = l ∧ (s.tag i).state = .ready := of_mem_ready ((h.refs l).refers i) (List.mem_of_mem_take hi)
  have htag : (Machine.refill s l).tag = fun i => if i ∈ (s.link l).sch.ready.take (s.link l).freeSlots
      then { s.tag i with state := .queued } else s.tag i := funext (refill_tag s l)
  have hcases (i : TagId) : (s.tag i).link = l ∧ (s.tag i).state = .ready ∧
      (Machine.refill s l).tag i = { s.tag i with state := .queued } ∨ (Machine.refill s l).tag i = s.tag i := by
    rw [htag]
    dsimp only
    split
    next hi => exact .inl ⟨(hready hi).1, (hready hi).2, rfl⟩
    next => exact .inr rfl
  have hself : (Machine.refill s l).link l = _ := (refill_link s l l).trans (if_pos rfl)
  refine h.change (fun m hm => by rw [refill_link, if_neg (Ne.symm hm)]) (fun i => ?_)
    (hself ▸ (h.links l).refilled) (by rw [hself, htag]; exact (h.refs l).refilled) (fun m hm i => ?_) ?_ ?_
  · obtain ⟨-, hr, hi⟩ | hi := hcases i <;> rw [hi]
    · exact (h.tags i).queued hr
    · exact h.tags i
  · obtain ⟨hl, -, hi⟩ | hi := hcases i
    · exact .inr ⟨.inl (hl ▸ Ne.symm hm), by rw [hi]; exact .inl (hl ▸ Ne.symm hm)⟩
    · exact .inl hi
  · rw [refill_frame]
    refine h.records.retag fun i => ?_
    obtain ⟨-, hr, hi⟩ | hi := hcases i
    · exact .inr ⟨by simp [hr], by rw [← refill_frame, hi]; simp⟩
    · exact .inl (by rw [← refill_frame, hi])
  · rw [refill_frame]
    exact h.ages

theorem Core.schedule {s : State} (h : Core s) (l : LinkId) : Core (schedule s l) :=
  (h.refill l).onLink rfl rfl rfl (fun m => link_onLink _ l m _) (((h.refill l).links l).pick _)
    ((h.refill l).refs l).pick

/-- What an event keeps of the links and tags that it is not about. -/
structure Elsewhere (l : LinkId) (s t : State) : Prop where
  link : ∀ m, m ≠ l → t.link m = s.link m
  station : ∀ i, (s.tag i).inFlight = true → (t.tag i).station = (s.tag i).station

theorem elsewhere_of_tags {l : LinkId} {s t : State} (hlink : ∀ m, m ≠ l → t.link m = s.link m)
    (htags : t.tags = s.tags) : Elsewhere l s t := ⟨hlink, fun i _ => by rw [State.tag, State.tag, htags]⟩

theorem Elsewhere.schedule {l : LinkId} {s t : State} (h : Elsewhere l s t) : Elsewhere l s (schedule t l) := by
  refine ⟨fun m hm => (schedule_link_of_ne t hm).trans (h.link m hm), fun i hi => ?_⟩
  rw [schedule_tag]
  split
  · exact h.station i hi
  · exact h.station i hi

/-- The tags that a link holds keep their stations. -/
theorem Inv.rests_elsewhere {l m : LinkId} {s t : State} (hs : Inv s) (h : Elsewhere l s t) (hm : m ≠ l) :
    Rests (stations t.tags) (t.link m) := by
  rw [h.link m hm]
  refine (hs.rests m).restation (fun i hi => ?_) (fun i hi => ?_)
  · obtain ⟨-, hstate⟩ := of_mem_resend ((hs.core.refs m).refers i) hi
    exact h.station i (by simp [Tag.inFlight, hstate])
  · obtain ⟨-, hstate⟩ := of_mem_txq ((hs.core.refs m).refers i) hi
    exact h.station i (by simp [Tag.inFlight, hstate])

theorem Inv.of_elsewhere {l : LinkId} {s t : State} (hs : Inv s) (ht : Core t) (h : Elsewhere l s t)
    (hrests : Rests (stations t.tags) (t.link l)) : Inv t := by
  refine ⟨ht, fun m => ?_⟩
  by_cases hm : m = l
  · exact hm ▸ hrests
  · exact hs.rests_elsewhere h hm

/-- An event that ends with the re-entry and the pick of its link. -/
theorem Inv.schedule {l : LinkId} {s u : State} (hs : Inv s) (hu : Core u) (h : Elsewhere l s u) :
    Inv (schedule u l) := hs.of_elsewhere (hu.schedule l) h.schedule (rests_schedule (hu.refs l).room)

end Sys2Proof.Proofs.Invariant
end

section
/-! Every event keeps the invariants of tags, links and records, and leaves every link at rest. -/

namespace Sys2Proof.Proofs.Invariant

open Sys2Proof Sys2Proof.Machine Sys2Proof.Laws Sys2Proof.Proofs.Inversion Sys2Proof.Proofs.Registers
  Sys2Proof.Proofs.LinkStates Sys2Proof.Proofs.LinkFits Sys2Proof.Proofs.References Sys2Proof.Proofs.Records
  Sys2Proof.Proofs.Rest

/-! ### Changes of one link -/

section

variable {s : State} {l : LinkId}

theorem link_onLink_ne {m : LinkId} (f : Link → Link) (hm : m ≠ l) : (s.onLink l f).link m = s.link m :=
  link_onLink_of_ne s f hm

theorem Inv.onLink (hs : Inv s) {f : Link → Link} (hfit : LinkFit (f (s.link l))) (hrefs : Refs l (f (s.link l)) s.tag)
    (hrests : Rests (stations s.tags) (f (s.link l))) : Inv (s.onLink l f) := by
  refine hs.of_elsewhere (hs.core.onLink rfl rfl rfl (fun m => link_onLink s l m f) hfit hrefs)
    (elsewhere_of_tags (fun m hm => link_onLink_ne f hm) rfl) ?_
  rw [link_onLink_self]
  exact hrests

/-- One link changes before the pick, in a state that may differ in its registers. -/
theorem Inv.scheduled {u : State} {k : Link} (hs : Inv s) (htags : u.tags = s.tags) (hcq : u.cq = s.cq)
    (heq : u.eq = s.eq) (hlink : ∀ m, u.link m = if l = m then k else s.link m) (hfit : LinkFit k)
    (hrefs : Refs l k s.tag) : Inv (Machine.schedule u l) :=
  hs.schedule (hs.core.onLink htags hcq heq hlink hfit hrefs)
    (elsewhere_of_tags (fun m hm => by rw [hlink, if_neg (Ne.symm hm)]) htags)

theorem Inv.onLinkScheduled (hs : Inv s) {f : Link → Link} (hfit : LinkFit (f (s.link l)))
    (hrefs : Refs l (f (s.link l)) s.tag) : Inv (Machine.schedule (s.onLink l f) l) :=
  hs.scheduled rfl rfl rfl (fun m => link_onLink s l m f) hfit hrefs

/-! ### Registers, receiver and configuration -/

theorem Inv.congr {t : State} (hs : Inv s) (htags : t.tags = s.tags) (hlinks : t.links = s.links) (hcq : t.cq = s.cq)
    (heq : t.eq = s.eq) : Inv t := by
  refine ⟨hs.core.congr htags hlinks hcq heq, fun m => ?_⟩
  rw [State.link, hlinks, htags]
  exact hs.rests m

theorem inv_linkConfig (hs : Inv s) (c : LinkConfig) : Inv (s.setLink l { s.link l with cfg := c }) :=
  hs.onLink (f := fun k => { k with cfg := c }) ((hs.core.links l).configure c)
    ((hs.core.refs l).frame rfl rfl rfl rfl id) ⟨(hs.rests l).idle, (hs.rests l).full⟩

theorem inv_received (hs : Inv s) {r : Receiver} (hr : Receives (s.link l) r) :
    Inv (s.setLink l { s.link l with rcv := r }) :=
  hs.onLink (f := fun k => { k with rcv := r }) ((hs.core.links l).receive hr)
    ((hs.core.refs l).frame rfl rfl rfl rfl id) ⟨(hs.rests l).idle, (hs.rests l).full⟩

theorem inv_stale (hs : Inv s) : Inv (s.onLink l Link.countStale) :=
  hs.onLink (hs.core.links l).countStale ((hs.core.refs l).frame rfl rfl rfl rfl id)
    ⟨(hs.rests l).idle, (hs.rests l).full⟩

/-! ### Ticks, age counts and pops -/

theorem refs_retimed {k : Link} {T T' : TagId → Tag} (h : Refs l k T)
    (hT : ∀ i, T' i = { T i with timer := (T' i).timer }) : Refs l k T' := by
  refine ⟨h.room, fun i => ?_, fun i => ?_⟩ <;> rw [hT]
  · exact h.refers i
  · exact h.up i

theorem tick_tag (s : State) (i : TagId) : (tick s).tag i = { s.tag i with timer := (s.tag i).timer.tick } :=
  getElem_mapTable ..

theorem inv_tick (hs : Inv s) : Inv (tick s) := by
  have hretimed (i : TagId) : (tick s).tag i = { s.tag i with timer := ((tick s).tag i).timer } := by
    rw [tick_tag]
  obtain ⟨hcq, heq⟩ := hs.core.ages
  refine ⟨⟨fun i => ?_, fun m => ?_, fun m => ?_, ?_, ?_, ?_⟩, fun m => ?_⟩
  · rw [tick_tag]
    exact (hs.core.tags i).tick
  · rw [tick_link]
    exact (hs.core.links m).tick
  · rw [tick_link]
    exact (refs_retimed (hs.core.refs m) hretimed).frame rfl rfl rfl rfl id
  · exact (hs.core.records.aged (aged_map (fun _ => rfl) s.cq)).retag fun i => .inl (hretimed i)
  · intro r hr
    obtain ⟨r', hr', rfl⟩ := List.mem_map.mp hr
    exact hcq r' hr'
  · intro r hr
    obtain ⟨r', hr', rfl⟩ := List.mem_map.mp hr
    exact heq r' hr'
  · rw [tick_link]
    have hstations : stations (tick s).tags = stations s.tags := funext fun i => (congrArg Tag.station (tick_tag s i) :)
    rw [hstations]
    exact ⟨(hs.rests m).idle, (hs.rests m).full⟩

/-- A property of every entry stays where one entry is modified and the modification keeps it. -/
theorem forall_mem_modify {α : Type} {p : α → Prop} {f : α → α} (hf : ∀ a, p a → p (f a)) {q : List α} (n : Nat)
    (hq : ∀ a ∈ q, p a) : ∀ a ∈ q.modify n f, p a := by
  induction q generalizing n with
  | nil => cases n <;> exact hq
  | cons x rest ih =>
    obtain ⟨hx, hrest⟩ := List.forall_mem_cons.mp hq
    cases n with
    | zero => exact List.forall_mem_cons.mpr ⟨hf x hx, hrest⟩
    | succ n => exact List.forall_mem_cons.mpr ⟨hx, ih n hrest⟩

theorem increment_le (a : AgeCount) : a.increment.count ≤ 255 := Nat.min_le_left _ _

theorem Core.withEvents (h : Core s) {q : List EvtRecord} (hq : ∀ r ∈ q, r.age.count ≤ 255 ∧ r.lostBefore ≤ 255) :
    Core { s with eq := q } :=
  ⟨h.tags, h.links, h.refs, h.records, h.ages.1, hq⟩

theorem inv_ageIncrement (hs : Inv s) (q : AgedQueue) (n : Nat) : Inv (ageIncrement s q n) := by
  cases q with
  | completion =>
    refine ⟨⟨hs.core.tags, hs.core.links, hs.core.refs, ?_, ?_, hs.core.ages.2⟩, hs.rests⟩
    · refine hs.core.records.aged (aged_modify (fun r => ?_) s.cq n)
      split <;> rfl
    · refine forall_mem_modify (fun r hr => ?_) n hs.core.ages.1
      split
      · exact increment_le _
      · exact hr
  | event =>
    refine ⟨hs.core.withEvents (forall_mem_modify (fun r hr => ?_) n hs.core.ages.2), hs.rests⟩
    split
    · exact ⟨increment_le _, hr.2⟩
    · exact hr

theorem tag_setTag_eq (s : State) (i : TagId) (t : Tag) : (s.setTag i t).tag = replaced s.tag i t :=
  funext fun _ => tag_setTag ..

theorem inv_popCompletion (hs : Inv s) : Inv (popCompletion s) := by
  unfold popCompletion
  split
  next => exact hs
  next r rest hcq =>
    have hrecords := hs.core.records
    have hages := hs.core.ages
    rw [hcq] at hrecords
    rw [AgesLegal, hcq] at hages
    have hcomplete : (s.tag r.index).state = .complete := (hrecords.1 r List.mem_cons_self).1
    have hold (m : LinkId) : Away m (s.tag r.index) := .inr (by simp [Tag.inFlight, hcomplete])
    have hnew (m : LinkId) : Away m (s.tag r.index).freed := .inr rfl
    have htag : ({ s.setTag r.index (s.tag r.index).freed with cq := rest } : State).tag =
      replaced s.tag r.index (s.tag r.index).freed := tag_setTag_eq ..
    have hcases (i : TagId) : i = r.index ∨
        replaced s.tag r.index (s.tag r.index).freed i = s.tag i := by
      by_cases hi : i = r.index
      · exact .inl hi
      · exact .inr (replaced_of_ne _ _ hi)
    refine ⟨⟨fun i => ?_, hs.core.links, fun m => ?_, ?_, fun x hx => hages.1 x (List.mem_cons_of_mem _ hx),
      hages.2⟩, fun m => ?_⟩
    · rw [htag]
      obtain rfl | hi := hcases i
      · rw [replaced_self]
        exact (hs.core.tags _).freed
      · rw [hi]
        exact hs.core.tags i
    · rw [htag]
      refine (hs.core.refs m).away fun i => ?_
      obtain rfl | hi := hcases i
      · rw [replaced_self]
        exact .inr ⟨hold m, hnew m⟩
      · exact .inl hi
    · rw [htag]
      exact hrecords.popped rfl
    · have hstations : stations (s.setTag r.index (s.tag r.index).freed).tags = stations s.tags := by
        funext i
        show ((s.setTag r.index (s.tag r.index).freed).tag i).station = (s.tag i).station
        rw [tag_setTag]
        split
        next hi => rw [← hi]; rfl
        next => rfl
      show Rests (stations (s.setTag r.index (s.tag r.index).freed).tags) (s.link m)
      rw [hstations]
      exact hs.rests m

theorem eventPopped_place (low : Nat) (k : Link) : (k.eventPopped low).ctl = k.ctl ∧
    (k.eventPopped low).sch.tx = k.sch.tx ∧ (k.eventPopped low).sch.txq = k.sch.txq ∧
    (k.eventPopped low).sch.resend = k.sch.resend ∧ (k.eventPopped low).sch.ready = k.sch.ready := by
  simp only [Link.eventPopped]
  split <;> exact ⟨rfl, rfl, rfl, rfl, rfl⟩

/-- The links of the stored events hold their places while an event leaves the queue or joins it. -/
theorem inv_popEvent (hs : Inv s) : Inv (popEvent s) := by
  unfold popEvent
  split
  next => exact hs
  next r rest heq =>
    have hages := hs.core.ages.2
    rw [heq] at hages
    have hcore : Core { s with eq := rest } := hs.core.withEvents fun x hx => hages x (List.mem_cons_of_mem _ hx)
    obtain ⟨hctl, htx, htxq, hresend, hready⟩ := eventPopped_place s.lowThreshold (s.link r.link)
    exact hs.schedule (hcore.onLink rfl rfl rfl (fun m => link_onLink _ r.link m _)
      ((hcore.links r.link).eventPopped _) ((hcore.refs r.link).frame htxq hready hresend htx (hctl ▸ id)))
      (elsewhere_of_tags (fun m hm => link_onLink_of_ne _ _ hm) rfl)

end

end Sys2Proof.Proofs.Invariant
end

section
/-! Every event keeps the invariants of tags, links and records: requests, answers and completions, links that go down
or come up, and the replay passes. -/

namespace Sys2Proof.Proofs.Invariant

open Sys2Proof Sys2Proof.Machine Sys2Proof.Laws Sys2Proof.Proofs.Inversion Sys2Proof.Proofs.Registers
  Sys2Proof.Proofs.LinkStates Sys2Proof.Proofs.LinkFits Sys2Proof.Proofs.References Sys2Proof.Proofs.Records
  Sys2Proof.Proofs.Rest

section

variable {s : State} {l : LinkId}

/-! ### Links that go down -/

theorem mem_flushTags {i : TagId} : i ∈ flushTags s l ↔ (s.tag i).link = l ∧ (s.tag i).inFlight = true := by
  simp [flushTags]

theorem flushedOn_eq (i : TagId) (status : Status) : (s.tag i).flushedOn l status =
    if i ∈ flushTags s l then (s.tag i).completed (plainResult status) else s.tag i := by
  simp only [Tag.flushedOn, mem_flushTags]

theorem away_flushedOn {m : LinkId} (hm : m ≠ l) (status : Status) (t : Tag) : t.flushedOn l status = t ∨
    Away m t ∧ Away m (t.flushedOn l status) := by
  unfold Tag.flushedOn
  split
  next h => exact .inr ⟨.inl (h.1 ▸ Ne.symm hm), .inr rfl⟩
  next => exact .inl rfl

theorem away_self_flushedOn (l : LinkId) (status : Status) (t : Tag) : Away l (t.flushedOn l status) := by
  unfold Tag.flushedOn
  split
  next => exact .inr rfl
  next h =>
    by_cases hl : t.link = l
    · exact .inr (Bool.eq_false_iff.mpr fun hf => h ⟨hl, hf⟩)
    · exact .inl hl

theorem flushedOn_station (l : LinkId) (status : Status) (t : Tag) : (t.flushedOn l status).station = t.station := by
  unfold Tag.flushedOn
  split <;> rfl

/-- No tag in flight belongs to a link that is not UP, so a flush of it changes no tag. -/
theorem Core.flushTags_of_down (h : Core s) (hd : (s.link l).ctl.state ≠ .up) : flushTags s l = [] :=
  List.eq_nil_iff_forall_not_mem.mpr fun i hi => by
    obtain ⟨hl, hf⟩ := mem_flushTags.mp hi
    exact hd ((h.refs l).up i hl hf)

theorem Core.flushedOn_of_down (h : Core s) (hd : (s.link l).ctl.state ≠ .up) (i : TagId) (status : Status) :
    (s.tag i).flushedOn l status = s.tag i := by
  rw [flushedOn_eq, h.flushTags_of_down hd, if_neg List.not_mem_nil]

/-- The tags of a link are flushed, and the link is left with empty collections and no request on its line. -/
theorem Core.flushed (h : Core s) {t : State} {status : Status} (hother : ∀ m, m ≠ l → t.link m = s.link m)
    (htag : ∀ i, t.tag i = (s.tag i).flushedOn l status)
    (hcq : t.cq = s.cq ++ (flushTags s l).map (fun i => recordOf i (s.tag i) (plainResult status)))
    (heq : t.eq = s.eq) (hfit : LinkFit (t.link l)) (htxq : (t.link l).sch.txq = [])
    (hready : (t.link l).sch.ready = []) (hresend : (t.link l).sch.resend = []) (hline : NoRequest (t.link l)) :
    Core t := by
  refine h.change hother (fun i => ?_) hfit (refs_of_empty htxq hready hresend hline fun i => ?_) (fun m hm i => ?_)
    ?_ ⟨fun r hr => ?_, heq ▸ h.ages.2⟩
  · rw [htag]
    exact (h.tags i).flushedOn l status
  · rw [htag]
    exact away_self_flushedOn l status _
  · rw [htag]
    exact away_flushedOn hm status _
  · have hflushed := h.records.completed ((List.nodup_finRange 32).filter _ : (flushTags s l).Nodup)
      (fun i hi => (inFlight_iff.mp (mem_flushTags.mp hi).2).2) s.tag (plainResult status)
    rw [hcq, show t.tag = _ from funext fun i => (htag i).trans (flushedOn_eq i status)]
    exact hflushed
  · obtain hold | hnew := List.mem_append.mp (hcq ▸ hr)
    · exact h.ages.1 r hold
    · obtain ⟨i, -, rfl⟩ := List.mem_map.mp hnew
      exact Nat.zero_le 255

theorem noRequest_of_abort {k : Link} {n : Nat} {tx : Transmitter} (h : k.sch.tx = abortTx n l tx) : NoRequest k :=
  noRequest_of_tx fun f src hf => by cases tx <;> cases h.symm.trans hf

/-- What going down leaves of the scheduler of a link. -/
theorem wentDown_empty {k : Link} (n : Nat) (hk : LinkFit k) : (wentDown n l k).sch.txq = [] ∧
    (wentDown n l k).sch.ready = [] ∧ (wentDown n l k).sch.resend = [] ∧
    (wentDown n l k).sch.pendingPause = .none ∧ (wentDown n l k).sch.tx = abortTx n l k.sch.tx := by
  unfold wentDown
  split
  next => exact ⟨rfl, rfl, rfl, rfl, rfl⟩
  next hd =>
    obtain ⟨htxq, hresend, hready, -, -, -, hslot, -⟩ := hk.quiet hd
    exact ⟨htxq, hready, hresend, hslot, rfl⟩

/-- Going down leaves the receiver alone, whichever it is. -/
theorem wentDown_withReceiver (n : Nat) (k : Link) (r : Receiver) :
    wentDown n l { k with rcv := r } = { wentDown n l k with rcv := r } := by
  simp only [wentDown]
  split <;> rfl

theorem wentDown_rcv (n : Nat) (k : Link) : (wentDown n l k).rcv = k.rcv := by
  simp only [wentDown]
  split <;> rfl

theorem linkFit_failedLink {k : Link} (hk : LinkFit k) (n : Nat) (cause : FailCause) {r : Receiver}
    (hr : r.badFrames ≤ 65535 ∧ r.consecutiveBad ≤ 8 ∧ r.kept.length ≤ 9) :
    LinkFit (failedLink n l cause { k with rcv := r }) := by
  have hfit := hk.wentDown n l (state := .failed) (cause := cause) (last := (wentDown n l k).sch.lastPause) (.inr rfl)
    hr
  obtain ⟨-, -, -, hslot, -⟩ := wentDown_empty (l := l) n hk
  rw [← hslot] at hfit
  rw [failedLink, wentDown_withReceiver]
  exact hfit

theorem linkFit_stoppedLink {k : Link} (hk : LinkFit k) (n : Nat) : LinkFit (stoppedLink n l k) := by
  obtain ⟨-, -, -, -, -, -, -, hframes, hbad, -, hkept⟩ := hk.counts
  exact hk.wentDown n l (state := .off) (cause := (wentDown n l k).ctl.cause) (last := .none)
    (r := (wentDown n l k).rcv) (.inl rfl) (by rw [wentDown_rcv]; exact ⟨hframes, hbad, hkept⟩)

theorem takeDown_eq (s : State) (l : LinkId) (status : Status) : (takeDown s l status).eq = s.eq :=
  (traffic_takeDown s l status).eq

/-- What going down leaves of the tags and the records of a sound state, whatever the state of the link. -/
theorem Core.takeDown (h : Core s) (status : Status) : (∀ i, (takeDown s l status).tag i =
      (s.tag i).flushedOn l status) ∧ (takeDown s l status).cq =
      s.cq ++ (flushTags s l).map (fun i => recordOf i (s.tag i) (plainResult status)) := by
  by_cases hup : (s.link l).ctl.state = .up
  · exact ⟨fun i => by rw [takeDown_tag, if_pos hup], by rw [takeDown_cq, if_pos hup]⟩
  · refine ⟨fun i => by rw [takeDown_tag, if_neg hup, h.flushedOn_of_down hup], ?_⟩
    rw [takeDown_cq, if_neg hup, h.flushTags_of_down hup, List.map_nil, List.append_nil]

theorem takeDown_withReceiver (s : State) (l : LinkId) (status : Status) (r : Receiver) (i : TagId) :
    (Machine.takeDown (s.setLink l { s.link l with rcv := r }) l status).tag i = (Machine.takeDown s l status).tag i ∧
    (Machine.takeDown (s.setLink l { s.link l with rcv := r }) l status).cq = (Machine.takeDown s l status).cq := by
  simp only [takeDown_tag, takeDown_cq, link_setLink_self]
  exact ⟨rfl, rfl⟩

/-- A link fails, in the event that left its receiver as `r`. -/
theorem Core.failLink (h : Core s) (cause : FailCause) {r : Receiver}
    (hr : r.badFrames ≤ 65535 ∧ r.consecutiveBad ≤ 8 ∧ r.kept.length ≤ 9) :
    Core (failLink (s.setLink l { s.link l with rcv := r }) l cause) := by
  obtain ⟨htag, hcq⟩ := h.takeDown (l := l) .linkDown
  obtain ⟨htxq, hready, hresend, -, htx⟩ := wentDown_empty (l := l) s.freeCount (h.links l)
  have hself : (Machine.failLink (s.setLink l { s.link l with rcv := r }) l cause).link l =
      failedLink s.freeCount l cause { s.link l with rcv := r } := by
    rw [failLink_link, if_pos rfl, link_setLink_self]
    rfl
  have hsch : (failedLink s.freeCount l cause { s.link l with rcv := r }).sch =
      (wentDown s.freeCount l (s.link l)).sch := by
    rw [failedLink, wentDown_withReceiver]
  refine h.flushed (l := l) (status := .linkDown) (fun m hm => ?_) (fun i => ?_) ?_ ?_ ?_ ?_ ?_ ?_ ?_
  · rw [failLink_link, if_neg (Ne.symm hm), link_setLink_of_ne _ _ hm]
  · rw [failLink_eq, tag_raiseBit, tag_onLink, (takeDown_withReceiver ..).1, htag]
  · rw [failLink_cq, (takeDown_withReceiver s l .linkDown r 0).2, hcq]
  · exact (traffic_failLink _ l cause).eq
  · rw [hself]
    exact linkFit_failedLink (h.links l) s.freeCount cause hr
  · rw [hself, hsch, htxq]
  · rw [hself, hsch, hready]
  · rw [hself, hsch, hresend]
  · exact noRequest_of_abort (n := s.freeCount) (l := l) (tx := (s.link l).sch.tx) (by rw [hself, hsch, htx])

theorem failLink_elsewhere (s : State) (l : LinkId) (cause : FailCause) (r : Receiver) :
    Elsewhere l s (failLink (s.setLink l { s.link l with rcv := r }) l cause) := by
  refine ⟨fun m hm => by rw [failLink_link, if_neg (Ne.symm hm), link_setLink_of_ne _ _ hm], fun i _ => ?_⟩
  rw [failLink_tag]
  split
  · exact flushedOn_station l .linkDown _
  · rfl

theorem inv_failLink (hs : Inv s) (cause : FailCause) {r : Receiver}
    (hr : r.badFrames ≤ 65535 ∧ r.consecutiveBad ≤ 8 ∧ r.kept.length ≤ 9) :
    Inv (failLink (s.setLink l { s.link l with rcv := r }) l cause) := by
  have hcore := hs.core.failLink cause (l := l) hr
  have hstate : ((failLink (s.setLink l { s.link l with rcv := r }) l cause).link l).ctl.state = .failed := by
    rw [failLink_link, if_pos rfl]
    rfl
  refine hs.of_elsewhere hcore (failLink_elsewhere ..) (rests_of_down (.inr hstate) ?_)
  obtain ⟨-, -, hready, -⟩ := (hcore.links l).quiet (by rw [hstate]; decide)
  exact hready

theorem Core.receiver_legal (h : Core s) (l : LinkId) : (s.link l).rcv.badFrames ≤ 65535 ∧
    (s.link l).rcv.consecutiveBad ≤ 8 ∧ (s.link l).rcv.kept.length ≤ 9 := by
  obtain ⟨-, -, -, -, -, -, -, hframes, hbad, -, hkept⟩ := (h.links l).counts
  exact ⟨hframes, hbad, hkept⟩

theorem inv_malformed (hs : Inv s) (hj : (s.link l).judging = true) :
    Inv (failLink ((s.onLink l Link.hunting).onLink l Link.countBad) l .badFrames) := by
  obtain ⟨-, -, -, -, -, -, -, -, -, hbad, -⟩ := (hs.core.links l).counts
  rw [onLink_onLink, onLink_eq_setLink]
  exact inv_failLink hs .badFrames (r := (s.link l).hunting.countBad.rcv)
    ⟨Nat.min_le_left _ _, Nat.succ_le_succ (hbad (judging_iff.mp hj)), Nat.zero_le _⟩

theorem inv_stopLink (hs : Inv s) : Inv (stopLink s l) := by
  obtain ⟨htag, hcq⟩ := hs.core.takeDown (l := l) .linkStopped
  obtain ⟨htxq, hready, hresend, -, htx⟩ := wentDown_empty (l := l) s.freeCount (hs.core.links l)
  have hself : (stopLink s l).link l = stoppedLink s.freeCount l (s.link l) := by rw [stopLink_link, if_pos rfl]
  have hother (m : LinkId) (hm : m ≠ l) : (stopLink s l).link m = s.link m := by
    rw [stopLink_link, if_neg (Ne.symm hm)]
  have htags (i : TagId) : (stopLink s l).tag i = (s.tag i).flushedOn l .linkStopped := by
    rw [stopLink_eq, tag_raiseBit, tag_onLink, htag]
  have hcore : Core (stopLink s l) := by
    refine hs.core.flushed hother htags ((stopLink_cq s l).trans hcq) ?_ ?_ ?_ ?_ ?_ ?_
    · rw [stopLink_eq]
      exact takeDown_eq s l .linkStopped
    · rw [hself]
      exact linkFit_stoppedLink (hs.core.links l) s.freeCount
    · rw [hself]
      exact htxq
    · rw [hself]
      exact hready
    · rw [hself]
      exact hresend
    · exact noRequest_of_abort (n := s.freeCount) (l := l) (tx := (s.link l).sch.tx) (by rw [hself]; exact htx)
  refine hs.of_elsewhere hcore ⟨hother, fun i _ => by rw [htags, flushedOn_station]⟩ ?_
  rw [hself]
  exact rests_of_down (.inl rfl) hready

/-! ### Links that come up or begin training -/

theorem cameUp_queues (low : Nat) (k : Link) : (cameUp low k).sch.txq = k.sch.txq ∧
    (cameUp low k).sch.ready = k.sch.ready ∧ (cameUp low k).sch.resend = k.sch.resend ∧
    (cameUp low k).sch.tx = k.sch.tx ∧ (cameUp low k).ctl.state = .up := by
  simp only [cameUp, Link.enterUp, Link.enterUpEvents, Link.askPause]
  split <;> simp

/-- On a link that is not UP no first WR transmission is on the line: its posted write would be in the queue. -/
theorem no_first_write {k : Link} (h : LinkFit k) (hd : k.ctl.state ≠ .up) (seq : Seq) (st : StationId)
    (a : Addr) (d : Word) (held : Bool) : k.sch.tx ≠ .sending (.wr seq st a d) (.queueHead held) := fun htx => by
  obtain ⟨htxq, -⟩ := h.quiet hd
  obtain ⟨-, -, hfirst, -, -⟩ := h.replay
  obtain ⟨-, -, p, hp, -⟩ := hfirst seq st a d held htx
  rw [htxq] at hp
  cases hp

/-- Entry into UP from TRAINING, with or without a HELLO_ACK to answer (R150, R151). -/
theorem inv_enterUp (hs : Inv s) (ht : (s.link l).ctl.state = .training) (ack : Bool) :
    Inv (enterUp (s.onLink l (fun k => { k with sch := { k.sch with helloAckPending := ack } })) l) := by
  have hd : (s.link l).ctl.state ≠ .up := by rw [ht]; decide
  have hfit := hs.core.links l
  obtain ⟨-, -, -, -, -, -, -, -, -, hbad, -⟩ := hfit.counts
  generalize hk : cameUp s.lowThreshold
    { s.link l with sch := { (s.link l).sch with helloAckPending := ack } } = k
  obtain ⟨htxq, hready, hresend, htx, hstate⟩ := hk ▸ cameUp_queues s.lowThreshold _
  rw [enterUp_eq]
  refine hs.scheduled (k := k) rfl rfl rfl (fun m => ?_) ?_
    ((hs.core.refs l).frame htxq hready hresend htx fun _ => hstate)
  · rw [link_raiseBit, onLink_onLink, link_onLink, ← hk]
    rfl
  · rw [← hk]
    exact linkFit_cameUp _ hfit.counts (hbad (.inl ht))
      fun seq st a d held => no_first_write hfit hd seq st a d held

/-- A partner restart: the flush of a link in UP and its entry into UP anew (R153). -/
theorem inv_restart (hs : Inv s) (hup : (s.link l).ctl.state = .up) :
    Inv (enterUp ((flush s l .partnerReset true).onLink l
      (fun k => { k with sch := { k.sch with helloAckPending := true } })) l) := by
  have hfit := hs.core.links l
  obtain ⟨ht, -, hst, -, -, hlost, hrepeat, hframes, hbad, hjudged, hkept⟩ := hfit.counts
  generalize hj : ({ (s.link l).flushed s.freeCount l true with
    sch := { ((s.link l).flushed s.freeCount l true).sch with helloAckPending := true } } : Link) = j
  generalize hk : cameUp s.lowThreshold j = k
  obtain ⟨htxq, hready, hresend, htx, -⟩ := hk ▸ cameUp_queues s.lowThreshold j
  have htxj : j.sch.tx = abortTx s.freeCount l (s.link l).sch.tx := by rw [← hj]; rfl
  have hline : NoRequest k := noRequest_of_abort (htx.trans htxj)
  have hjfit : LinkFit k := by
    rw [← hk]
    refine linkFit_cameUp _ ?_ ?_ fun seq st a d held hf => ?_
    · rw [← hj]
      exact ⟨ht, Nat.min_le_left _ _, hst, Nat.zero_le _, Nat.zero_le _, hlost, hrepeat, hframes, hbad, hjudged, hkept⟩
    · rw [← hj]
      exact hjudged (.inr hup)
    · rw [htxj] at hf
      cases hs : (s.link l).sch.tx <;> rw [hs] at hf <;> cases hf
  rw [enterUp_eq]
  generalize hu : (((flush s l .partnerReset true).onLink l (fun k => { k with
    sch := { k.sch with helloAckPending := true } })).onLink l (cameUp _)).raiseBit (linkChangeBit l) = u
  have hself : u.link l = k := by
    rw [← hu, link_raiseBit, onLink_onLink, link_onLink_self, flush_link, if_pos rfl, ← hk, ← hj, onLink_lowThreshold,
      show (flush s l .partnerReset true).lowThreshold = s.lowThreshold from rfl]
  have hother (m : LinkId) (hm : m ≠ l) : u.link m = s.link m := by
    rw [← hu, link_raiseBit, onLink_onLink, link_onLink_of_ne _ _ hm, flush_link, if_neg (Ne.symm hm)]
  have htag (i : TagId) : u.tag i = (s.tag i).flushedOn l .partnerReset := by
    rw [← hu, tag_raiseBit, tag_onLink, tag_onLink, flush_tag]
  refine hs.schedule (hs.core.flushed hother htag ?_ ?_ ?_ ?_ ?_ ?_ ?_)
    ⟨hother, fun i _ => by rw [htag, flushedOn_station]⟩
  · rw [← hu, raiseBit_cq, onLink_cq, onLink_cq, flush_frame]
  · rw [← hu, raiseBit_eq, onLink_eq, onLink_eq, flush_frame]
  · rw [hself]
    exact hjfit
  · rw [hself, htxq, ← hj]
    rfl
  · rw [hself, hready, ← hj]
    rfl
  · rw [hself, hresend, ← hj]
    rfl
  · rw [hself]
    exact hline

theorem inv_takeHello (hs : Inv s) : Inv (takeHello s l) := by
  unfold takeHello
  split
  next => exact hs
  next => exact hs
  next ht => exact inv_enterUp hs ht true
  next hup => exact inv_restart hs hup

theorem inv_takeHelloAck (hs : Inv s) : Inv (takeHelloAck s l) := by
  unfold takeHelloAck
  split
  next => exact hs
  next => exact hs
  next ht =>
    have henter := inv_enterUp hs ht (s.link l).sch.helloAckPending
    rwa [onLink_eq_setLink, show ({ s.link l with sch := { (s.link l).sch with
      helloAckPending := (s.link l).sch.helloAckPending } } : Link) = s.link l from rfl, setLink_link] at henter
  next => exact inv_stale hs

theorem inv_startLink (hs : Inv s) (hd : (s.link l).ctl.state = .off ∨ (s.link l).ctl.state = .failed) :
    Inv (startLink s l) := by
  rw [startLink_eq]
  refine hs.scheduled rfl rfl rfl (fun m => (link_raiseBit ..).trans (link_onLink ..))
    ((hs.core.links l).started hd) ((hs.core.refs l).frame rfl rfl rfl rfl fun hup => ?_)
  rcases hd with hd | hd <;> cases hd.symm.trans hup

theorem inv_helloExpiry (hs : Inv s) (h : (s.link l).helloExpires = true) : Inv (helloExpiry s l) := by
  simp only [Link.helloExpires, Bool.and_eq_true, decide_eq_true_eq] at h
  unfold helloExpiry
  split
  next hlimit =>
    exact hs.onLinkScheduled ((hs.core.links l).helloRepeats h.1 hlimit _) ((hs.core.refs l).frame rfl rfl rfl rfl id)
  next =>
    have hfail := inv_failLink (l := l) hs .trainExhausted (hs.core.receiver_legal l)
    rwa [setLink_link] at hfail

theorem inv_softReset (hs : Inv s) : Inv (softReset s) := by
  have htag (i : TagId) : (softReset s).tag i = (s.tag i).freed := getElem_mapTable ..
  refine ⟨⟨fun i => ?_, fun m => ?_, fun m => ?_, recorded_nil fun i => ?_, fun _ hr => (List.not_mem_nil hr).elim,
    fun _ hr => (List.not_mem_nil hr).elim⟩, fun m => ?_⟩
  · rw [htag]
    exact (hs.core.tags i).freed
  · rw [softReset_link]
    exact linkFit_softReset ..
  · rw [softReset_link]
    refine refs_of_empty rfl rfl rfl (noRequest_of_abort rfl) fun i => ?_
    rw [htag]
    exact .inr rfl
  · rw [htag]
    exact TagState.noConfusion
  · rw [softReset_link]
    exact rests_of_down (.inl rfl) rfl

end

end Sys2Proof.Proofs.Invariant
end

section
/-! Every event keeps the invariants of tags, links and records: requests, answers, transmissions and replay passes; and
from it, that every event keeps all the invariants of the machine. -/

namespace Sys2Proof.Proofs.Invariant

open Sys2Proof Sys2Proof.Machine Sys2Proof.Laws Sys2Proof.Proofs.Inversion Sys2Proof.Proofs.Registers
  Sys2Proof.Proofs.LinkStates Sys2Proof.Proofs.LinkFits Sys2Proof.Proofs.References Sys2Proof.Proofs.Records
  Sys2Proof.Proofs.Rest

section

variable {s : State} {l : LinkId}

/-! ### Received events and pauses -/

theorem eventStored_place (high interval : Nat) (k : Link) : (k.eventStored high interval).ctl = k.ctl ∧
    (k.eventStored high interval).sch.tx = k.sch.tx ∧ (k.eventStored high interval).sch.txq = k.sch.txq ∧
    (k.eventStored high interval).sch.resend = k.sch.resend ∧
    (k.eventStored high interval).sch.ready = k.sch.ready := by
  simp only [Link.eventStored, Link.repeatAdvance, Link.entryTest, Link.askPause]
  split_ifs <;> exact ⟨rfl, rfl, rfl, rfl, rfl⟩

theorem eventDropped_place (interval : Nat) (k : Link) : (k.eventDropped interval).ctl = k.ctl ∧
    (k.eventDropped interval).sch.tx = k.sch.tx ∧ (k.eventDropped interval).sch.txq = k.sch.txq ∧
    (k.eventDropped interval).sch.resend = k.sch.resend ∧
    (k.eventDropped interval).sch.ready = k.sch.ready := by
  simp only [Link.eventDropped, Link.repeatAdvance, Link.askPause]
  split_ifs <;> exact ⟨rfl, rfl, rfl, rfl, rfl⟩

theorem inv_takeEvent (hs : Inv s) (hrepeat : s.repeatK ≤ 8) (hup : (s.link l).ctl.state = .up) (st : StationId)
    (code : Byte) (payload : Word) : Inv (takeEvent s l st code payload) := by
  simp only [takeEvent]
  split
  next =>
    obtain ⟨-, -, -, -, -, hlost, -⟩ := (hs.core.links l).counts
    have hcore : Core { s with eq := s.eq ++ [eventRecord s l st code payload] } := hs.core.withEvents fun r hr => by
      obtain hold | hnew := List.mem_append.mp hr
      · exact hs.core.ages.2 r hold
      · obtain rfl := List.mem_singleton.mp hnew
        exact ⟨Nat.zero_le _, hlost⟩
    obtain ⟨hctl, htx, htxq, hresend, hready⟩ := eventStored_place s.highThreshold s.repeatK (s.link l)
    exact hs.schedule (hcore.onLink rfl rfl rfl (fun m => link_onLink _ l m _)
      ((hcore.links l).eventStored _ hrepeat hup) ((hcore.refs l).frame htxq hready hresend htx (hctl ▸ id)))
      (elsewhere_of_tags (fun m hm => link_onLink_of_ne _ _ hm) rfl)
  next =>
    obtain ⟨hctl, htx, htxq, hresend, hready⟩ := eventDropped_place s.repeatK (s.link l)
    exact hs.scheduled rfl rfl rfl (fun m => link_onLink _ l m _) ((hs.core.links l).eventDropped hrepeat hup)
      ((hs.core.refs l).frame htxq hready hresend htx (hctl ▸ id))

theorem inv_takePause (hs : Inv s) (hup : (s.link l).ctl.state = .up) : Inv (takePause s l) := by
  refine hs.onLink ((hs.core.links l).paused hup _) ((hs.core.refs l).frame rfl rfl rfl rfl id)
    ⟨fun hidle => ?_, (hs.rests l).full⟩
  have hnothing := (hs.rests l).idle hidle
  simp only [NothingEligible, hup] at hnothing ⊢
  exact ⟨hnothing.1, hnothing.2.1, .inl trivial⟩

theorem inv_holdExpiry (hs : Inv s) : Inv (holdExpiry s l) :=
  hs.onLinkScheduled (hs.core.links l).unpaused ((hs.core.refs l).frame rfl rfl rfl rfl id)

/-! ### Requests -/

/-- The queue has a slot beyond the tags of the ready-deferred list. -/
theorem txq_room (hslot : (s.link l).sch.ready.length < (s.link l).freeSlots) : (s.link l).sch.txq.length < 16 := by
  simp only [Link.freeSlots, Config.txQueueCapacity] at hslot
  omega

theorem inv_posted (hs : Inv s) (hup : (s.link l).ctl.state = .up)
    (hslot : (s.link l).sch.ready.length < (s.link l).freeSlots) (p : Posted) :
    Inv (Machine.schedule (enqueue s l (.posted p)) l) :=
  hs.onLinkScheduled ((hs.core.links l).queues hup fun _ hp => head?_append_of_some _ hp)
    ((hs.core.refs l).posted (txq_room hslot) p)

/-- One tag and its link change before the pick. -/
theorem Inv.tagScheduled (hs : Inv s) {u : State} {i : TagId} {x : Tag} {k : Link}
    (htag : u.tag = replaced s.tag i x) (hlink : ∀ m, u.link m = if l = m then k else s.link m)
    (hcq : u.cq = s.cq) (heq : u.eq = s.eq) (hold : ∀ m, m ≠ l → Away m (s.tag i)) (hx : x.link = l)
    (hopen : (s.tag i).state ≠ .complete) (hstate : x.state ≠ .complete)
    (hstation : (s.tag i).inFlight = true → x.station = (s.tag i).station) (htagFit : TagFit x) (hfit : LinkFit k)
    (hrefs : Refs l k (replaced s.tag i x)) : Inv (Machine.schedule u l) := by
  refine hs.schedule (hs.core.onTag htag hlink hcq heq hold hx hopen hstate htagFit hfit hrefs)
    ⟨fun m hm => by rw [hlink, if_neg (Ne.symm hm)], fun j hj => ?_⟩
  rw [htag]
  by_cases hji : j = i
  · subst hji
    rw [replaced_self]
    exact hstation hj
  · rw [replaced_of_ne _ _ hji]

theorem away_of_link {i : TagId} (hl : (s.tag i).link = l) (m : LinkId) (hm : m ≠ l) : Away m (s.tag i) :=
  .inl (hl ▸ Ne.symm hm)

theorem inv_tagged (hs : Inv s) {i : TagId} {kind : ReqKind} {target : Target} (a : Addr) (w : Word)
    (hup : (s.link target.link).ctl.state = .up)
    (hslot : (s.link target.link).sch.ready.length < (s.link target.link).freeSlots)
    (hfree : (s.tag i).state = .free) :
    Inv (Machine.schedule (enqueue (s.setTag i ((s.tag i).allocated kind target a w)) target.link (.ref i))
      target.link) :=
  hs.tagScheduled (tag_setTag_eq s i _) (fun m => link_onLink _ target.link m _) rfl rfl
    (fun m _ => .inr (by simp [Tag.inFlight, hfree])) rfl (by simp [hfree]) TagState.noConfusion
    (fun hf => by simp [Tag.inFlight, hfree] at hf) (tagFit_allocated ..)
    ((hs.core.links target.link).queues hup fun _ hp => head?_append_of_some _ hp)
    ((hs.core.refs target.link).tagged hup (txq_room hslot) hfree rfl rfl)

/-- A tag in AWAIT or DEFERRED is on a link that is UP. -/
theorem Core.up_of_inFlight (h : Core s) {i : TagId} (hf : (s.tag i).inFlight = true) :
    (s.link (s.tag i).link).ctl.state = .up := (h.refs _).up i rfl hf

theorem inFlight_of_state {t : Tag} {st : TagState} (h : t.state = st) (hfree : st ≠ .free)
    (hcomplete : st ≠ .complete) : t.inFlight = true := inFlight_iff.mpr (h ▸ ⟨hfree, hcomplete⟩)

theorem inv_resent (hs : Inv s) (hconfig : ConfigLegal s) {i : TagId} (hstate : (s.tag i).state = .await)
    (hlimit : (s.tag i).timeouts + 1 ≤ (s.link (s.tag i).link).cfg.retryLimit) :
    Inv (Machine.schedule ((s.setTag i { s.tag i with
        timeouts := (s.tag i).timeouts + 1, state := .resend, timer := .stopped }).onLink (s.tag i).link
      (fun k => { k with sch := { k.sch with resend := k.sch.resend ++ [i] } })) (s.tag i).link) := by
  have hf := inFlight_of_state hstate (by decide) (by decide)
  obtain ⟨-, -, -, -, -, -, hretry, -⟩ := hconfig.2.2.2.2.2.2.2.2.2.2.2.2 (s.tag i).link
  exact hs.tagScheduled (tag_setTag_eq s i _) (fun m => link_onLink _ (s.tag i).link m _) rfl rfl (away_of_link rfl)
    rfl (by simp [hstate]) TagState.noConfusion (fun _ => rfl) ((hs.core.tags i).resent hf (hlimit.trans hretry))
    ((hs.core.links _).queues (hs.core.up_of_inFlight hf) fun _ hp => hp)
    ((hs.core.refs _).resent hstate rfl rfl rfl)

theorem inv_readied (hs : Inv s) {i : TagId} (hstate : (s.tag i).state = .deferred) : Inv (delayExpiry s i) := by
  have hf := inFlight_of_state hstate (by decide) (by decide)
  exact hs.tagScheduled (tag_setTag_eq s i _) (fun m => link_onLink _ (s.tag i).link m _) rfl rfl (away_of_link rfl)
    rfl (by simp [hstate]) TagState.noConfusion (fun _ => rfl) ((hs.core.tags i).moved hf (.inr rfl))
    ((hs.core.links _).queues (hs.core.up_of_inFlight hf) fun _ hp => hp)
    ((hs.core.refs _).readied hstate rfl rfl rfl)

theorem stations_setTag {i : TagId} {x : Tag} (hx : x.station = (s.tag i).station) :
    stations (s.setTag i x).tags = stations s.tags := by
  funext j
  show ((s.setTag i x).tag j).station = (s.tag j).station
  rw [tag_setTag]
  split
  next hij => rw [← hij, hx]
  next => rfl

theorem inv_deferred (hs : Inv s) {i : TagId} (hstate : (s.tag i).state = .await) (c : Countdown) :
    Inv (s.setTag i { s.tag i with
      busy := bump Config.byteMax (s.tag i).busy, state := .deferred, timer := .retryDelay c }) := by
  have hf := inFlight_of_state hstate (by decide) (by decide)
  refine ⟨hs.core.onTag (tag_setTag_eq s i _) (l := (s.tag i).link) (k := s.link (s.tag i).link) (fun m => ?_) rfl rfl
    (away_of_link rfl) rfl (by simp [hstate]) TagState.noConfusion ((hs.core.tags i).deferred hf c) (hs.core.links _)
    ((hs.core.refs _).deferred hstate rfl rfl), fun m => ?_⟩
  · rw [link_setTag]
    split
    next hm => rw [hm]
    next => rfl
  · rw [stations_setTag]
    · exact hs.rests m
    · rfl

/-! ### Completions -/

/-- A tag completes, counted or not by the answer that completes it. -/
theorem Core.completed (h : Core s) {i : TagId} {t : Tag} {r : Result} (ht : Counted (s.tag i) t)
    (hf : (s.tag i).inFlight = true) : Core (completeTag (s.setTag i t) i r) := by
  obtain ⟨-, hcomplete⟩ := inFlight_iff.mp hf
  have htag : (completeTag (s.setTag i t) i r).tag = replaced s.tag i (t.completed r) := by
    funext j
    rw [completeTag_tag, tag_setTag_self, tag_setTag, replaced]
    split <;> rfl
  have hlink (m : LinkId) : (completeTag (s.setTag i t) i r).link m =
      if (s.tag i).link = m then (s.link (s.tag i).link).dropTag i else s.link m := by
    rw [completeTag_link, tag_setTag_self, ht.link]
    rfl
  have hself : (completeTag (s.setTag i t) i r).link (s.tag i).link = (s.link (s.tag i).link).dropTag i := by
    rw [hlink, if_pos rfl]
  have hcq : (completeTag (s.setTag i t) i r).cq = s.cq ++ [i].map (fun i => recordOf i t r) := by
    rw [completeTag_frame, tag_setTag_self]
    rfl
  have hcases (j : TagId) : j = i ∨ replaced s.tag i (t.completed r) j = s.tag j := by
    by_cases hj : j = i
    · exact .inl hj
    · exact .inr (replaced_of_ne _ _ hj)
  refine h.change (l := (s.tag i).link) (fun m hm => by rw [hlink, if_neg (Ne.symm hm)]) (fun j => ?_)
    (hself ▸ (h.links _).dropTag i) (by rw [hself, htag]; exact (h.refs _).completed rfl hf rfl) (fun m hm j => ?_) ?_
    ⟨fun x hx => ?_, h.ages.2⟩
  · rw [htag]
    obtain rfl | hj := hcases j
    · rw [replaced_self]
      exact tagFit_completed r (ht.legal (h.tags _).counts)
    · rw [hj]
      exact h.tags j
  · rw [htag]
    obtain rfl | hj := hcases j
    · rw [replaced_self]
      exact .inr ⟨away_of_link rfl m hm, .inr rfl⟩
    · exact .inl hj
  · rw [hcq, htag, show replaced s.tag i (t.completed r) = fun j => if j ∈ [i] then t.completed r else s.tag j from
      funext fun j => by simp [replaced, eq_comm]]
    exact h.records.completed (List.nodup_singleton i)
      (fun j hj => by rwa [List.mem_singleton.mp hj]) (fun _ => t) r
  · rw [hcq] at hx
    obtain hold | hnew := List.mem_append.mp hx
    · exact h.ages.1 x hold
    · obtain rfl := List.mem_singleton.mp hnew
      exact Nat.zero_le _

theorem completeTag_elsewhere {i : TagId} {t : Tag} (ht : Counted (s.tag i) t) (hl : (s.tag i).link = l) (r : Result) :
    Elsewhere l s (completeTag (s.setTag i t) i r) := by
  refine ⟨fun m hm => ?_, fun j _ => ?_⟩
  · rw [completeTag_link, tag_setTag_self, ht.link, hl, if_neg (Ne.symm hm), link_setTag]
  · rw [completeTag_tag, tag_setTag_self, tag_setTag]
    split
    next hij => rw [← hij]; exact ht.station
    next => rfl

theorem counted_refl (t : Tag) : Counted t t := ⟨rfl, rfl, rfl, rfl, fun ⟨ha, hb, hto, _⟩ => ⟨ha, hb, hto⟩⟩

theorem takesFinal_inFlight {t : Tag} (h : t.takesFinal = true) : t.inFlight = true := by
  unfold Tag.takesFinal at h
  unfold Tag.inFlight
  split at h <;> simp_all

theorem setTag_tag (s : State) (i : TagId) : s.setTag i (s.tag i) = s := by
  simp [State.setTag, State.tag]

theorem inv_final (hs : Inv s) {i : TagId} {r : Result} (hl : (s.tag i).link = l)
    (htakes : (s.tag i).takesFinal = true) : Inv (Machine.schedule (completeTag s i r) l) := by
  have hcore := hs.core.completed (r := r) (counted_refl (s.tag i)) (takesFinal_inFlight htakes)
  have hother := completeTag_elsewhere (counted_refl (s.tag i)) hl r
  rw [setTag_tag] at hcore hother
  exact hs.schedule hcore hother

/-- A tag without a place is taken out of its link's collections without effect. -/
theorem dropTag_of_absent {k : Link} {i : TagId} (htxq : QEntry.ref i ∉ k.sch.txq) (hresend : i ∉ k.sch.resend)
    (hready : i ∉ k.sch.ready) : k.dropTag i = k := by
  have htxq' : k.sch.txq.filter (fun e => decide (e ≠ .ref i)) = k.sch.txq :=
    List.filter_eq_self.mpr fun e he => decide_eq_true fun heq => htxq (heq ▸ he)
  have hresend' : k.sch.resend.filter (fun j => decide (j ≠ i)) = k.sch.resend :=
    List.filter_eq_self.mpr fun j hj => decide_eq_true fun heq => hresend (heq ▸ hj)
  have hready' : k.sch.ready.filter (fun j => decide (j ≠ i)) = k.sch.ready :=
    List.filter_eq_self.mpr fun j hj => decide_eq_true fun heq => hready (heq ▸ hj)
  have hhead : k.sch.txq.head? ≠ some (.ref i) := fun hh => htxq (List.mem_of_head? hh)
  simp only [Link.dropTag, htxq', hresend', hready', hhead, ne_eq, not_false_eq_true, decide_true, Bool.and_true]
  split
  next f held htx => rw [← htx]
  next => rfl

/-- A tag in AWAIT completes without a pick: it had no place in the collections of its link. -/
theorem inv_counted (hs : Inv s) {i : TagId} {t : Tag} {r : Result} (hstate : (s.tag i).state = .await)
    (ht : Counted (s.tag i) t) : Inv (completeTag (s.setTag i t) i r) := by
  have hi := (hs.core.refs (s.tag i).link).refers i
  refine hs.of_elsewhere (hs.core.completed ht (inFlight_of_state hstate (by decide) (by decide)))
    (completeTag_elsewhere ht rfl r) ?_
  have hstations : stations (completeTag (s.setTag i t) i r).tags = stations s.tags := by
    funext j
    show ((completeTag (s.setTag i t) i r).tag j).station = (s.tag j).station
    rw [completeTag_tag, tag_setTag_self, tag_setTag]
    split
    next hij => rw [← hij]; exact ht.station
    next => rfl
  rw [hstations, completeTag_link, tag_setTag_self, ht.link, if_pos rfl, link_setTag,
    dropTag_of_absent (not_mem_txq hi (.inr (by simp [hstate]))) (not_mem_resend hi (.inr (by simp [hstate])))
      (not_mem_ready hi (.inr (by simp [hstate])))]
  exact hs.rests _

end

end Sys2Proof.Proofs.Invariant
end

section
/-! Every event keeps the invariants of tags, links and records: replay passes and the ends of transmissions. From all
of it, every step and every edge of a strobe keeps the invariants of the machine together. -/

namespace Sys2Proof.Proofs.Invariant

open Sys2Proof Sys2Proof.Machine Sys2Proof.Laws Sys2Proof.Proofs.Inversion Sys2Proof.Proofs.Registers
  Sys2Proof.Proofs.LinkStates Sys2Proof.Proofs.LinkFits Sys2Proof.Proofs.References Sys2Proof.Proofs.Records
  Sys2Proof.Proofs.Rest Sys2Proof.Proofs.LineAndPause

section

variable {s : State} {l : LinkId}

/-! ### Replay passes -/

/-- The failure of a link in UP clears the posted-write state, of which it reads the replay list alone. -/
theorem failLink_setPst (hup : (s.link l).ctl.state = .up) {p : PostedState}
    (hp : p.replay = (s.link l).pst.replay) (cause : FailCause) :
    failLink (s.setLink l { s.link l with pst := p }) l cause = failLink s l cause := by
  have hup' : ((s.setLink l { s.link l with pst := p }).link l).ctl.state = .up := by
    rw [link_setLink_self]
    exact hup
  have hflush : flush (s.setLink l { s.link l with pst := p }) l .linkDown false = flush s l .linkDown false := by
    simp only [flush, onLink_eq_setLink, link_setLink_self, setLink_setLink, Link.flushed, Link.discardAddrs, hp]
    rfl
  rw [failLink_eq, failLink_eq, takeDown_of_up _ _ _ hup, takeDown_of_up _ _ _ hup', hflush]

/-- An ask for a pass overwrites the position of the pass and the replay timer. -/
theorem askPass_setPst (hup : (s.link l).ctl.state = .up) (c : Option Countdown) (q : ReplayPass) :
    askPass (s.setLink l { s.link l with pst := { (s.link l).pst with timer := c, pass := q } }) l = askPass s l := by
  simp only [askPass, link_setLink_self, onLink_eq_setLink, setLink_setLink]
  split
  next => rw [failLink_setPst hup, failLink_setPst hup] <;> rfl
  next => rfl

/-- An ask for a pass in UP, with an entry in the replay list: the pass starts, or the link fails. -/
theorem Core.askPass (h : Core s) (hlegal : (s.link l).cfg.Legal) (hup : (s.link l).ctl.state = .up)
    (hreplay : (s.link l).pst.replay ≠ []) : Core (askPass s l) ∧ Elsewhere l s (askPass s l) := by
  obtain ⟨-, -, -, -, -, -, -, -, -, hlimit⟩ := hlegal
  by_cases hle : (s.link l).pst.attempts + 1 ≤ (s.link l).cfg.replayLimit
  · rw [askPass_of_le s l hle]
    exact ⟨h.onLink rfl rfl rfl (fun m => link_onLink s l m _)
      ((h.links l).startPass hup hreplay (hle.trans hlimit)) ((h.refs l).frame rfl rfl rfl rfl id),
      elsewhere_of_tags (fun m hm => link_onLink_of_ne _ _ hm) rfl⟩
  · have hfail := h.failLink (l := l) .replayExhausted (h.receiver_legal l)
    have hother := failLink_elsewhere s l .replayExhausted (s.link l).rcv
    rw [setLink_link] at hfail hother
    rw [askPass_of_lt s l (Nat.lt_of_not_le hle), onLink_eq_setLink, failLink_setPst hup]
    · exact ⟨hfail, hother⟩
    · rfl

theorem inv_ackPass (hs : Inv s) (hlegal : (s.link l).cfg.Legal) (hup : (s.link l).ctl.state = .up)
    (hreplay : (s.link l).pst.replay ≠ []) : Inv (Machine.schedule (askPass s l) l) := by
  obtain ⟨hcore, hother⟩ := hs.core.askPass hlegal hup hreplay
  exact hs.schedule hcore hother

/-- A link with a replay entry, or in a pass, is UP. -/
theorem up_of_posted {k : Link} (h : LinkFit k) (hk : k.pst.replay ≠ [] ∨ k.pst.pass ≠ .none) : k.ctl.state = .up := by
  by_contra hd
  obtain ⟨-, -, -, hpst, -⟩ := h.quiet hd
  rw [hpst] at hk
  simp at hk

theorem inv_replayExpiry (hs : Inv s) (hlegal : (s.link l).cfg.Legal)
    (hdue : timerDue (s.link l).pst.timer = true) : Inv (replayExpiry s l) := by
  obtain ⟨-, -, htimer⟩ := (hs.core.links l).timers
  have hsome : (s.link l).pst.timer.isSome = true := by
    cases ht : (s.link l).pst.timer with
    | none => rw [ht] at hdue; cases hdue
    | some c => rfl
  obtain ⟨hreplay, hpass⟩ := htimer.mp hsome
  have hup := up_of_posted (hs.core.links l) (.inl hreplay)
  have hask : replayExpiry s l = Machine.schedule (Machine.askPass s l) l :=
    congrArg (fun u => Machine.schedule u l) (askPass_setPst hup none (s.link l).pst.pass)
  rw [hask]
  exact inv_ackPass hs hlegal hup hreplay

theorem inv_ackDuplicate (hs : Inv s) (hup : (s.link l).ctl.state = .up) : Inv (s.onLink l Link.ackDuplicate) :=
  hs.onLink ((hs.core.links l).ackDuplicate hup) ((hs.core.refs l).frame rfl rfl rfl rfl id)
    ⟨(hs.rests l).idle, (hs.rests l).full⟩

theorem inv_ackProgress (hs : Inv s) (hup : (s.link l).ctl.state = .up) {n : Nat}
    (hn : n ≤ (s.link l).pst.replay.length) :
    Inv (Machine.schedule (endPassIfOver (s.onLink l (Link.ackProgress n)) l) l) := by
  have hfit := (hs.core.links l).ackProgress hup hn
  unfold endPassIfOver
  rw [link_onLink_self]
  split at hfit
  next hover =>
    obtain ⟨hnil, -⟩ := (hs.core.links l).replay_nil_of_passOver hover
    rw [if_pos hover, endPass_of_nil _ _ (by rw [link_onLink_self]; exact hnil), onLink_onLink]
    exact hs.onLinkScheduled hfit ((hs.core.refs l).frame rfl rfl rfl rfl id)
  next hover =>
    rw [if_neg hover]
    exact hs.onLinkScheduled hfit ((hs.core.refs l).frame rfl rfl rfl rfl id)

/-! ### Ends of transmissions -/

theorem resendOnLine_of_source {k : Link} {f : TxFrame} {src : Source} (htx : k.sch.tx = .sending f src)
    (hsrc : src ≠ .resend) : k.resendOnLine = none :=
  Option.eq_none_iff_forall_ne_some.mpr fun ⟨i, g⟩ hg => by
    obtain ⟨f', htx', -⟩ := resendOnLine_eq_some.mp hg
    exact hsrc (Transmitter.sending.inj (htx.symm.trans htx')).2

/-- A frame that was not picked from the resend order leaves the line. -/
theorem refs_txFree (h : Core s) (hnone : (s.link l).resendOnLine = none) :
    Refs l (s.link l).txFree s.tag :=
  (h.refs l).txFree fun _ _ hg _ => of_none_of_some hnone hg

theorem inv_freed (hs : Inv s) (htx : (∃ f, (s.link l).sch.tx = .sending f .control) ∨
    ∃ rest, (s.link l).sch.tx = .aborting rest) : Inv (freeTransmitter s l) := by
  have hpass (f : TxFrame) : (s.link l).sch.tx ≠ .sending f .pass := fun hf => by
    obtain ⟨g, hg⟩ | ⟨rest, hr⟩ := htx
    · exact Source.noConfusion (Transmitter.sending.inj (hg.symm.trans hf)).2
    · exact Transmitter.noConfusion (hr.symm.trans hf)
  have hnone : (s.link l).resendOnLine = none := by
    obtain ⟨g, hg⟩ | ⟨rest, hr⟩ := htx
    · exact resendOnLine_of_source hg Source.noConfusion
    · simp only [Link.resendOnLine, hr]
  exact hs.onLinkScheduled ((hs.core.links l).txFree ((hs.core.links l).pass_ne_end hpass)) (refs_txFree hs.core hnone)

theorem stillSent_iff {t : Tag} {g : Gen} {st : TagState} :
    t.stillSent g l st = true ↔ t.gen = g ∧ t.link = l ∧ t.state = st := by
  simp [Tag.stillSent, and_assoc]

theorem inv_endResend (hs : Inv s) {f : TxFrame} {i : TagId} {g : Gen} (hf : f.request = some (i, g))
    (htx : (s.link l).sch.tx = .sending f .resend) : Inv (endResend s l i g) := by
  have hline : (s.link l).resendOnLine = some (i, g) := resendOnLine_eq_some.mpr ⟨f, htx, hf⟩
  have hfit : LinkFit (s.link l).txFree := (hs.core.links l).txFree ((hs.core.links l).pass_ne_end fun f' hf' =>
    Source.noConfusion (Transmitter.sending.inj (htx.symm.trans hf')).2)
  simp only [endResend]
  split
  next hsent =>
    rw [tag_onLink] at hsent ⊢
    obtain ⟨-, hl, hstate⟩ := stillSent_iff.mp hsent
    have hflight := inFlight_of_state hstate (by decide) (by decide)
    exact hs.tagScheduled (tag_setTag_eq _ i _) (fun m => link_onLink s l m Link.txFree) rfl rfl (away_of_link hl) hl
      (by simp [hstate]) TagState.noConfusion (fun _ => rfl) ((hs.core.tags i).transmitted hflight _) hfit
      ((hs.core.refs l).endResend hline hl hstate rfl)
  next hsent =>
    rw [tag_onLink] at hsent
    refine hs.onLinkScheduled hfit ((hs.core.refs l).txFree fun j g' hg hl hstate => hsent ?_)
    cases hline.symm.trans hg
    obtain ⟨-, -, -, hgen, -⟩ := (hs.core.refs l).refers i
    obtain ⟨-, -, -, hsame⟩ := hgen g hline hl
    exact stillSent_iff.mpr ⟨hsame hstate, hl, hstate⟩

theorem inv_endQueued (hs : Inv s) {f : TxFrame} {i : TagId} {g : Gen} {held : Bool}
    (htx : (s.link l).sch.tx = .sending f (.queueHead held)) : Inv (endQueued s l i g held) := by
  have hnone : (s.link l).resendOnLine = none := resendOnLine_of_source htx Source.noConfusion
  have hfit : LinkFit (s.link l).txFree := (hs.core.links l).txFree ((hs.core.links l).pass_ne_end fun f' hf' =>
    Source.noConfusion (Transmitter.sending.inj (htx.symm.trans hf')).2)
  simp only [endQueued, tag_onLink, link_onLink_self]
  split
  next hsent =>
    simp only [Bool.and_eq_true, decide_eq_true_eq] at hsent
    obtain ⟨⟨-, hhead⟩, hsent⟩ := hsent
    obtain ⟨-, hl, hstate⟩ := stillSent_iff.mp hsent
    obtain ⟨rest, hrest⟩ := List.head?_eq_some_iff.mp hhead
    have hflight := inFlight_of_state hstate (by decide) (by decide)
    have hup : (s.link l).ctl.state = .up := hl ▸ hs.core.up_of_inFlight hflight
    refine hs.tagScheduled (k := (s.link l).txFree.headLeaves) (tag_setTag_eq _ i _) (fun m => ?_) rfl rfl
      (away_of_link hl) hl (by simp [hstate]) TagState.noConfusion (fun _ => rfl)
      ((hs.core.tags i).transmitted hflight _) (hfit.queues hup fun p hp => ?_)
      ((hs.core.refs l).endQueued hrest hnone rfl)
    · rw [link_onLink, link_setTag, link_setTag, link_onLink_self, link_onLink]
      split <;> rfl
    · cases hhead.symm.trans hp
  next => exact hs.onLinkScheduled hfit (refs_txFree hs.core hnone)

theorem inv_endFirstWr (hs : Inv s) {seq : Seq} {st : StationId} {a : Addr} {d : Word} {held : Bool}
    (htx : (s.link l).sch.tx = .sending (.wr seq st a d) (.queueHead held)) : Inv (endFirstWr s l seq) := by
  obtain ⟨-, -, hfirst, -, -⟩ := (hs.core.links l).replay
  obtain ⟨-, -, p, hp, -⟩ := hfirst seq st a d held htx
  obtain ⟨rest, hrest⟩ := List.head?_eq_some_iff.mp hp
  have hup : (s.link l).ctl.state = .up := by
    by_contra hd
    obtain ⟨htxq, -⟩ := (hs.core.links l).quiet hd
    cases htxq.symm.trans hrest
  have hline : NoRequest (s.link l) := noRequest_of_tx fun f src hf => by
    rw [← (Transmitter.sending.inj (htx.symm.trans hf)).1]
    exact .inl rfl
  have hqueue : ((s.onLink l Link.txFree).link l).sch.txq = .posted p :: rest := by
    rw [link_onLink_self]
    exact hrest
  simp only [endFirstWr, hqueue, onLink_onLink]
  exact hs.onLinkScheduled ((hs.core.links l).joinReplay hup htx p)
    ((hs.core.refs l).postedLeaves hrest hline rfl (congrArg (List.drop 1) hrest) rfl rfl rfl)

/-- A pass ends at the end of its last frame (R63). -/
theorem core_endPass (h : Core s) (hlegal : (s.link l).cfg.Legal) (hpass : (s.link l).pst.pass = .active none)
    (hnone : (s.link l).resendOnLine = none) :
    Core (endPass (s.onLink l Link.txFree) l) ∧ Elsewhere l s (endPass (s.onLink l Link.txFree) l) := by
  have hup := up_of_posted (h.links l) (.inr (by rw [hpass]; exact ReplayPass.noConfusion))
  have hrefs := refs_txFree h hnone
  have hended {c : Option Countdown} (hc : c.isSome ↔ (s.link l).pst.replay ≠ []) :
      LinkFit { (s.link l).txFree with pst := { (s.link l).pst with pass := .none, timer := c } } :=
    ((h.links l).endPass hup hc).txFree ReplayPass.noConfusion
  have hother (f : Link → Link) : Elsewhere l s (s.onLink l f) :=
    elsewhere_of_tags (fun m hm => link_onLink_of_ne _ _ hm) rfl
  by_cases hnil : (s.link l).pst.replay = []
  · have htimer := (h.links l).timer_none (by rw [hpass]; exact ReplayPass.noConfusion)
    rw [endPass_of_nil _ _ (by rw [link_onLink_self]; exact hnil), onLink_onLink]
    refine ⟨h.onLink rfl rfl rfl (fun m => link_onLink s l m _) ?_ (hrefs.frame rfl rfl rfl rfl id), hother _⟩
    exact hended (c := (s.link l).pst.timer) (by simp [htimer, hnil])
  have hne : ((s.onLink l Link.txFree).link l).pst.replay ≠ [] := by rwa [link_onLink_self]
  by_cases hdup : (s.link l).pst.duplicates = 2
  · let started : Link := { (s.link l).txFree with pst := { (s.link l).pst with
      pass := .none, timer := (s.link l).replayStart } }
    have hfit : LinkFit started := hended (by simp [Link.replayStart, hnil])
    have hcore : Core (s.setLink l started) :=
      h.onLink rfl rfl rfl (fun m => link_setLink s l m started) hfit (hrefs.frame rfl rfl rfl rfl id)
    have hask := hcore.askPass (l := l) (by rw [link_setLink_self]; exact hlegal)
      (by rw [link_setLink_self]; exact hup) (by rw [link_setLink_self]; exact hnil)
    have hsame : askPass (s.setLink l started) l = endPass (s.onLink l Link.txFree) l := by
      rw [endPass_of_duplicates _ _ hne (by rw [link_onLink_self]; exact hdup), onLink_onLink, onLink_eq_setLink]
      have hset := askPass_setPst (s := s.setLink l started) (l := l) (by rw [link_setLink_self]; exact hup)
        (s.link l).pst.timer .none
      rw [link_setLink_self, setLink_setLink] at hset
      exact hset.symm
    rw [hsame] at hask
    refine ⟨hask.1, fun m hm => (hask.2.link m hm).trans (link_setLink_of_ne _ _ hm), fun i hi => hask.2.station i hi⟩
  · rw [endPass_starts_timer _ _ hne (by rw [link_onLink_self]; exact hdup), onLink_onLink]
    refine ⟨h.onLink rfl rfl rfl (fun m => link_onLink s l m _) ?_ (hrefs.frame rfl rfl rfl rfl id), hother _⟩
    exact hended (c := (s.link l).replayStart) (by simp [Link.replayStart, hnil])

theorem inv_endPassFrame (hs : Inv s) (hlegal : (s.link l).cfg.Legal) {f : TxFrame}
    (htx : (s.link l).sch.tx = .sending f .pass) : Inv (endPassFrame s l) := by
  have hnone : (s.link l).resendOnLine = none := resendOnLine_of_source htx Source.noConfusion
  unfold endPassFrame endPassIfOver
  rw [link_onLink_self]
  split
  next hover =>
    obtain ⟨hpass, -⟩ := passOver_iff.mp hover
    obtain ⟨hcore, hother⟩ := core_endPass hs.core hlegal hpass hnone
    exact hs.schedule hcore hother
  next hover =>
    refine hs.onLinkScheduled ((hs.core.links l).txFree fun hpass => hover ?_) (refs_txFree hs.core hnone)
    exact passOver_iff.mpr ⟨hpass, fun _ => Transmitter.noConfusion⟩

end

/-! ### Every event -/

theorem repeatK_le {s : State} (h : ConfigLegal s) : s.repeatK ≤ 8 := by
  obtain ⟨-, -, -, -, -, -, hk, -⟩ := h
  omega

theorem link_legal {s : State} (h : ConfigLegal s) (l : LinkId) : (s.link l).cfg.Legal := by
  obtain ⟨-, -, -, -, -, -, -, -, -, -, -, -, hcfg⟩ := h
  exact hcfg l

theorem event_inv {s t : State} (h : Event s t) (hconfig : ConfigLegal s) (hs : Inv s) : Inv t := by
  cases h with
  | registers h => exact hs.congr h.tags h.links h.cq h.eq
  | resetRelease => exact hs.congr rfl rfl rfl rfl
  | softReset => exact inv_softReset hs
  | linkConfig h => exact inv_linkConfig hs _
  | received h => exact inv_received hs h
  | stale => exact inv_stale hs
  | tick => exact inv_tick hs
  | ageIncrement => exact inv_ageIncrement hs _ _
  | popCompletion => exact inv_popCompletion hs
  | popEvent => exact inv_popEvent hs
  | posted hup hslot => exact inv_posted hs hup hslot _
  | tagged hup hslot hfree => exact inv_tagged hs _ _ hup hslot hfree
  | start h => exact inv_startLink hs h
  | stop => exact inv_stopLink hs
  | counted hstate h => exact inv_counted hs hstate h
  | resent hstate hlimit => exact inv_resent hs hconfig hstate hlimit
  | readied hstate => exact inv_readied hs hstate
  | deferred hstate => exact inv_deferred hs hstate _
  | final hlink htakes => exact inv_final hs hlink htakes
  | paused hup => exact inv_takePause hs hup
  | unpaused => exact inv_holdExpiry hs
  | event hup => exact inv_takeEvent hs (repeatK_le hconfig) hup _ _ _
  | helloExpiry h => exact inv_helloExpiry hs h
  | malformed h => exact inv_malformed hs h
  | hello => exact inv_takeHello hs
  | helloAck => exact inv_takeHelloAck hs
  | ackProgress hup hn hle => exact inv_ackProgress hs hup hle
  | ackDuplicate hup => exact inv_ackDuplicate hs hup
  | ackPass hup hreplay hpass => exact inv_ackPass hs (link_legal hconfig _) hup hreplay
  | replayExpiry h => exact inv_replayExpiry hs (link_legal hconfig _) h
  | endResend hf htx => exact inv_endResend hs hf htx
  | endQueued hf htx => exact inv_endQueued hs htx
  | endFirstWr htx => exact inv_endFirstWr hs htx
  | endPassFrame htx => exact inv_endPassFrame hs (link_legal hconfig _) htx
  | freed htx => exact inv_freed hs htx

theorem events_inv {s t : State} (h : Events s t) (hconfig : ConfigLegal s) (hs : Inv s) : Inv t := by
  induction h with
  | refl => exact hs
  | tail hchain hlast ih => exact event_inv hlast ((events_keep hchain).config hconfig) ih

/-! ### The invariants of the machine together -/

theorem Sound.inv {s : State} (h : Sound s) : Inv s := by
  obtain ⟨htags, hlinks, hages, hages'⟩ := h.counts
  obtain ⟨htagTimers, hlinkTimers⟩ := h.timers
  obtain ⟨hquiet, hup⟩ := h.quiet
  refine ⟨⟨fun i => ⟨htags i, (htagTimers i).1, (htagTimers i).2⟩,
    fun l => ⟨hlinks l, hlinkTimers l, h.replay l, hquiet l⟩, fun l => ?_, h.records, hages, hages'⟩, fun l => ?_⟩
  · obtain ⟨⟨hroom, -⟩, hrefers⟩ := h.references l
    refine ⟨hroom, hrefers, fun i hl hf => ?_⟩
    obtain ⟨hfree, hcomplete⟩ := inFlight_iff.mp hf
    exact hl ▸ hup i hfree hcomplete
  · exact ⟨fun hidle => (pick_eq_self_iff hidle).mp (h.idle l hidle), (h.references l).1.2⟩

/-- What is sound, from the invariants of tags, links and records, those of the registers and those of the line. -/
theorem sound_of_inv {s : State} (h : Inv s) (hconfig : ConfigLegal s) (hevents : EventCountsAgree s)
    (horder : OrderKept s) (hresume : ResumeFollowsPause s) (hbus : DrivesOnlyReads s) : Sound s where
  config := hconfig
  counts := ⟨fun i => (h.core.tags i).counts, fun l => (h.core.links l).counts, h.core.ages⟩
  timers := ⟨fun i => ⟨(h.core.tags i).timer, (h.core.tags i).result⟩, fun l => (h.core.links l).timers⟩
  events := hevents
  records := h.core.records
  references l := ⟨⟨(h.core.refs l).room, (h.rests l).full⟩, (h.core.refs l).refers⟩
  replay l := (h.core.links l).replay
  order := horder
  resume := hresume
  quiet := ⟨fun l => (h.core.links l).quiet, fun _ hfree hcomplete =>
    h.core.up_of_inFlight (inFlight_iff.mpr ⟨hfree, hcomplete⟩)⟩
  idle l hidle := (pick_eq_self_iff hidle).mpr ((h.rests l).idle hidle)
  bus := hbus

/-- A chain of events keeps soundness, where the part drives nothing outside a read after it. -/
theorem events_sound {s t : State} (h : Events s t) (hs : Sound s) (hbus : DrivesOnlyReads t) : Sound t :=
  sound_of_inv (events_inv h hs.config (Sound.inv hs)) ((events_keep h).config hs.config)
    ((events_keep h).events hs.events) (fun l => ((events_lineSteps h).link l).order (hs.order l))
    (fun l => ((events_lineSteps h).link l).resume (hs.resume l)) hbus

end Sys2Proof.Proofs.Invariant
end

section
/-! The invariants of the machine together: the state after the pin reset, every step, and every edge of a strobe. -/

namespace Sys2Proof.Proofs.Soundness

open Sys2Proof Sys2Proof.Machine Sys2Proof.Laws Sys2Proof.Proofs.Inversion Sys2Proof.Proofs.Registers
  Sys2Proof.Proofs.LinkStates Sys2Proof.Proofs.LinkFits Sys2Proof.Proofs.References Sys2Proof.Proofs.Records
  Sys2Proof.Proofs.Rest Sys2Proof.Proofs.LineAndPause Sys2Proof.Proofs.Invariant

/-! ### The pin reset -/

theorem pinReset_tag (s : State) (i : TagId) : (pinReset s).tag i = Tag.pinReset := by
  simp [pinReset, State.reset, State.tag]

theorem tagFit_pinReset : TagFit Tag.pinReset := ⟨by decide, by decide, by decide⟩

theorem linkFit_pinReset : LinkFit Link.pinReset :=
  ⟨by decide, by decide, ⟨Nat.zero_le _, trivial, fun _ _ _ _ _ htx => Transmitter.noConfusion htx,
    fun _ hq => ReplayPass.noConfusion hq, fun hq => ReplayPass.noConfusion hq⟩,
    fun _ => ⟨rfl, rfl, rfl, rfl, rfl, rfl, rfl, rfl⟩⟩

theorem inv_pinReset (s : State) : Inv (pinReset s) := by
  refine ⟨⟨fun i => ?_, fun l => ?_, fun l => ?_, recorded_nil fun i => ?_, fun _ hr => (List.not_mem_nil hr).elim,
    fun _ hr => (List.not_mem_nil hr).elim⟩, fun l => ?_⟩
  · rw [pinReset_tag]
    exact tagFit_pinReset
  · rw [pinReset_link]
    exact linkFit_pinReset
  · rw [pinReset_link]
    refine refs_of_empty rfl rfl rfl (noRequest_of_idle rfl) fun i => ?_
    rw [pinReset_tag]
    exact .inr rfl
  · rw [pinReset_tag]
    exact TagState.noConfusion
  · rw [pinReset_link]
    exact rests_of_down (.inl rfl) rfl

theorem sound_pinReset (s : State) : Sound (pinReset s) := by
  refine sound_of_inv (inv_pinReset s) (pinReset_configLegal s) (pinReset_eventCounts s) (fun l => ?_) (fun l => ?_)
    fun hdriven => Bool.noConfusion hdriven
  · rw [pinReset_link]
    exact orderKept_of_no_station rfl
  · rw [pinReset_link]
    exact resume_of_none rfl

/-- What soundness reads of the bus and of RESET_N is what is driven in a read alone; it reads no waiting command. -/
theorem sound_withBus {s : State} (h : Sound s) {r : Bool} {b : HostBus} {q : List Instr}
    (hbus : DrivesOnlyReads { s with inReset := r, bus := b, pending := q }) :
    Sound { s with inReset := r, bus := b, pending := q } :=
  sound_of_inv ((Sound.inv h).congr rfl rfl rfl rfl) h.config h.events h.order h.resume hbus

/-! ### Steps -/

/-- A chain of events from a sound state leaves the data bus as it was, so in a read if it is driven. -/
theorem events_drivesOnlyReads {s t : State} (h : Events s t) (hs : DrivesOnlyReads s) : DrivesOnlyReads t := by
  have hkeeps := events_keep h
  intro hdriven
  rw [hkeeps.bus] at hdriven
  have hread := hs hdriven
  obtain ⟨hcs, hrd, hwr, hrunning⟩ := (cycle_eq_read s).mp hread
  exact (cycle_eq_read t).mpr (hkeeps.bus ▸ ⟨hcs, hrd, hwr, hkeeps.running hrunning⟩)

theorem exec_sound {c : Instr} {s t : State} (hs : Sound s) (h : exec c s = .next t) : Sound t := by
  by_cases hc : c = .pinReset
  · subst hc
    cases h
    exact sound_pinReset s
  · obtain ⟨u, hexec, hevents⟩ := exec_events hc s
    cases hexec.symm.trans h
    exact events_sound hevents hs (events_drivesOnlyReads hevents hs.bus)

theorem step_sound {s t : State} (hs : Sound s) (h : step s = .next t) : Sound t := by
  unfold step at h
  split at h
  · cases h
    exact hs
  next rest _ => exact exec_sound (sound_withBus (q := rest) hs hs.bus) h

/-! ### Edges of a strobe -/

theorem drivesOnlyReads_drive_none (s : State) : DrivesOnlyReads (s.drive none) :=
  fun hdriven => Bool.noConfusion hdriven

/-- An edge within a read keeps the word; the edge that begins one drives a word in a read; and after every other edge
nothing is driven, whatever command it is (R174). -/
theorem busEdge_sound {s t : State} {strobe : Strobe} {high : Bool} {offset : Offset} {data : Word} (hs : Sound s)
    (h : busEdge strobe high offset data s = .next t) : Sound t := by
  have hreleased : Sound ((s.withStrobe strobe high).drive none) := sound_withBus hs (drivesOnlyReads_drive_none _)
  simp only [busEdge] at h
  split at h
  next hread =>
    cases h
    exact sound_withBus hs fun _ => hread.2
  split at h
  next hread =>
    cases h
    exact sound_withBus hs fun _ => hread.2
  split at h
  next => exact exec_sound hreleased h
  next =>
    cases h
    exact hreleased

/-! ### The statements -/

/-- Settles O7. -/
theorem resetIsSound : Obligations.ResetIsSound :=
  sound_withBus (sound_pinReset State.reset) (r := false) (b := .idle) (q := []) fun hdriven => Bool.noConfusion hdriven

/-- Settles O17: a step and an edge are a command, or an operation on the bus alone; every command is the pin reset or a
chain of events, each of which keeps every invariant. -/
theorem stepKeepsSound : Obligations.StepKeepsSound :=
  ⟨fun _ _ hs h => step_sound hs h, fun _ _ _ _ _ _ hs h => busEdge_sound hs h⟩

/-- Settles O12, as a part of soundness. -/
theorem stepKeepsTheRecords : Obligations.StepKeepsTheRecords := fun _ _ hs h => (step_sound hs h).records

/-- Settles O13, as a part of soundness. -/
theorem stepKeepsTheReferences : Obligations.StepKeepsTheReferences := fun _ _ hs h => (step_sound hs h).references

/-- Settles O14, as a part of soundness. -/
theorem stepKeepsTheReplayNumbers : Obligations.StepKeepsTheReplayNumbers := fun _ _ hs h => (step_sound hs h).replay

/-- Settles O15, as a part of soundness. -/
theorem stepKeepsQuietLinks : Obligations.StepKeepsQuietLinks := fun _ _ hs h => (step_sound hs h).quiet

/-- Settles O16, as a part of soundness. -/
theorem stepKeepsIdleTransmittersIdle : Obligations.StepKeepsIdleTransmittersIdle :=
  fun _ _ hs h => (step_sound hs h).idle

end Sys2Proof.Proofs.Soundness
end

section
/-! The statements on received frames: pauses, events, answers, acknowledgements, HELLO and HELLO_ACK, malformed frames
and single bytes (R45 to R47, R57 to R64, R9 to R13, R109, R110, R134 to R139, R150 to R153). -/

namespace Sys2Proof.Proofs.Received

open Sys2Proof Sys2Proof.Machine Sys2Proof.Laws Sys2Proof.Proofs.Inversion Sys2Proof.Proofs.LinkStates

section

variable {s : State} {l : LinkId}

/-! ### A good frame out of reset -/

/-- The command of a good frame has the effect of the frame, handed on with the receiver in HUNTING. -/
theorem exec_command (hrun : s.inReset = false) (l : LinkId) (f : RxFrame) :
    exec (f.command l) s = .next (handOn (s.setLink l (s.link l).goodFrame) l f) := by
  cases f <;> exact unlessReset_of_running s _ hrun

theorem whileUp_of_up {t : State} (h : (s.link l).ctl.state = .up) : whileUp s l t = t := if_pos h

theorem whileUp_of_not_up {t : State} (h : (s.link l).ctl.state ≠ .up) : whileUp s l t = s := if_neg h

theorem link_good (s : State) (l : LinkId) :
    (s.setLink l (s.link l).goodFrame).link l = (s.link l).goodFrame := link_setLink_self ..

theorem good_up (h : (s.link l).ctl.state = .up) : ((s.setLink l (s.link l).goodFrame).link l).ctl.state = .up := by
  rw [link_good]
  exact h

theorem good_not_up (h : (s.link l).ctl.state ≠ .up) :
    ((s.setLink l (s.link l).goodFrame).link l).ctl.state ≠ .up := by
  rw [link_good]
  exact h

/-- An update of the link of a good frame, in one. -/
theorem onLink_good (s : State) (l : LinkId) (f : Link → Link) :
    (s.setLink l (s.link l).goodFrame).onLink l f = s.setLink l (f (s.link l).goodFrame) := by
  rw [onLink_eq_setLink, link_good, setLink_setLink]

/-- In a link that is not UP a good frame other than HELLO and HELLO_ACK is ignored (R137). -/
theorem exec_command_of_not_up (hrun : s.inReset = false) (hd : (s.link l).ctl.state ≠ .up) {f : RxFrame}
    (hf : ∀ st v, f ≠ .hello st v ∧ f ≠ .helloAck st v) :
    exec (f.command l) s = .next (s.setLink l (s.link l).goodFrame) := by
  rw [exec_command hrun]
  cases f with
  | hello st v => exact absurd rfl (hf st v).1
  | helloAck st v => exact absurd rfl (hf st v).2
  | ackp | done | data | retry | fault | evt | pause | resume =>
    exact congrArg Host.Outcome.next (whileUp_of_not_up (good_not_up hd))

/-! ### After the failure of a link in UP -/

theorem failedLink_ready_of_up {k : Link} (n : Nat) (cause : FailCause) (hup : k.ctl.state = .up) :
    (failedLink n l cause k).sch.ready = [] := by
  rw [failedLink, wentDown, if_pos hup]
  rfl

/-- The pick after the failure of a link in UP takes nothing, and no tag re-enters its queue. -/
theorem schedule_failLink_of_up (cause : FailCause) (hup : (s.link l).ctl.state = .up) :
    schedule (failLink s l cause) l = failLink s l cause := by
  have hlink := (failLink_link s l l cause).trans (if_pos rfl)
  refine schedule_of_down _ _ ?_ (.inr ?_) <;> rw [hlink]
  · exact failedLink_ready_of_up _ _ hup
  · rfl

/-- The ask for a pass above the attempt limit fails a link in UP, and the end of the event changes nothing more. -/
theorem schedule_askPass_of_lt {k : Link} (hup : k.ctl.state = .up) (hlt : k.cfg.replayLimit < k.pst.attempts + 1) :
    schedule (askPass (s.setLink l k) l) l = failLink (s.setLink l { k with
      pst := { k.pst with attempts := k.pst.attempts + 1 } }) l .replayExhausted := by
  rw [askPass_of_lt _ _ (by rw [link_setLink_self]; exact hlt), onLink_eq_setLink, link_setLink_self, setLink_setLink]
  exact schedule_failLink_of_up _ (by rw [link_setLink_self]; exact hup)

/-- The ask for a pass within the attempt limit starts it at the oldest entry. -/
theorem askPass_setLink_of_le {k : Link} (hle : k.pst.attempts + 1 ≤ k.cfg.replayLimit) :
    askPass (s.setLink l k) l = s.setLink l { k with pst := { k.pst with
      attempts := k.pst.attempts + 1, pass := .active (k.pst.replay.head?.map (·.seq)), timer := none
      duplicates := 0 } } := by
  rw [askPass_of_le _ _ (by rw [link_setLink_self]; exact hle), onLink_eq_setLink, link_setLink_self, setLink_setLink]

/-! ### Pauses (R45 to R47) -/

theorem timerDue_of_past {t : Option Countdown} {c : Countdown} (ht : t = some c) (hpast : c.duration < c.elapsed) :
    timerDue t = true := by
  rw [ht]
  exact decide_eq_true hpast

theorem exec_pauseHoldExpiry_of_due (hrun : s.inReset = false) (hdue : timerDue (s.link l).sch.holdTimer = true) :
    exec (.pauseHoldExpiry l) s = .next (holdExpiry s l) := by
  show unlessReset s (if timerDue (s.link l).sch.holdTimer then holdExpiry s l else s) = _
  rw [if_pos hdue, unlessReset_of_running _ _ hrun]

theorem exec_pause_of_up (hrun : s.inReset = false) (hup : (s.link l).ctl.state = .up) (st : StationId) (b : Byte) :
    exec (.pause l st b) s = .next (takePause (s.setLink l (s.link l).goodFrame) l) :=
  (exec_command hrun l (.pause st b)).trans (congrArg Host.Outcome.next (whileUp_of_up (good_up hup)))

theorem exec_resume_of_up (hrun : s.inReset = false) (hup : (s.link l).ctl.state = .up) (st : StationId) (b : Byte) :
    exec (.resume l st b) s = .next (takeResume (s.setLink l (s.link l).goodFrame) l) :=
  (exec_command hrun l (.resume st b)).trans (congrArg Host.Outcome.next (whileUp_of_up (good_up hup)))

/-- Settles O44: the hold expiry, and the two frames by the state of the link and of the flag. -/
theorem outboundPauseIsSetAndCleared : Obligations.OutboundPauseIsSetAndCleared := by
  intro s l hrun
  refine ⟨fun c ht hpast => exec_pauseHoldExpiry_of_due hrun (timerDue_of_past ht hpast), fun st b => ⟨fun hup => ?_,
    fun hup hset => ?_, fun hup hclear => ?_, fun hd => ?_⟩⟩
  · rw [exec_pause_of_up hrun hup, takePause, onLink_good]
    rfl
  · rw [exec_resume_of_up hrun hup, takeResume, if_pos (by rw [link_good]; exact hset), onLink_good]
    rfl
  · rw [exec_resume_of_up hrun hup, takeResume, if_neg (by rw [link_good]; exact Bool.eq_false_iff.mp hclear)]
  · exact ⟨exec_command_of_not_up hrun hd (f := .pause st b) (by simp),
      exec_command_of_not_up hrun hd (f := .resume st b) (by simp)⟩

/-! ### Events (R109, R110, R116, R117) -/

theorem exec_evt_of_up (hrun : s.inReset = false) (hup : (s.link l).ctl.state = .up) (st : StationId) (code : Byte)
    (payload : Word) :
    exec (.evt l st code payload) s = .next (takeEvent (s.setLink l (s.link l).goodFrame) l st code payload) :=
  (exec_command hrun l (.evt st code payload)).trans (congrArg Host.Outcome.next (whileUp_of_up (good_up hup)))

theorem takeEvent_of_room (st : StationId) (code : Byte) (payload : Word) (hroom : s.eq.length < 64) :
    takeEvent s l st code payload = schedule
      ({ s with eq := s.eq ++ [eventRecord s l st code payload] }.onLink l
        (Link.eventStored s.highThreshold s.repeatK)) l := if_pos hroom

theorem takeEvent_of_full (st : StationId) (code : Byte) (payload : Word) (hfull : 64 ≤ s.eq.length) :
    takeEvent s l st code payload = schedule
      ((s.raiseBit eventDropBit).onLink l (Link.eventDropped s.repeatK)) l := if_neg (Nat.not_lt.mpr hfull)

/-- Where the queue has room, the event joins it and the link is as `eventStored` leaves it. -/
theorem exec_evt_stored (hrun : s.inReset = false) (hup : (s.link l).ctl.state = .up) (hroom : s.eq.length < 64)
    (st : StationId) (code : Byte) (payload : Word) : exec (.evt l st code payload) s =
      .next (schedule ({ s with eq := s.eq ++ [eventRecord s l st code payload] }.setLink l
        ((s.link l).goodFrame.eventStored s.highThreshold s.repeatK)) l) := by
  refine (exec_evt_of_up hrun hup st code payload).trans (congrArg Host.Outcome.next ?_)
  refine (takeEvent_of_room (s := s.setLink l (s.link l).goodFrame) st code payload hroom).trans
    (congrArg (schedule · l) ?_)
  rw [eventRecord, link_good]
  exact onLink_good { s with eq := s.eq ++ [eventRecord s l st code payload] } l _

/-- Where the queue is full, the event is dropped and the link is as `eventDropped` leaves it. -/
theorem exec_evt_dropped (hrun : s.inReset = false) (hup : (s.link l).ctl.state = .up) (hfull : 64 ≤ s.eq.length)
    (st : StationId) (code : Byte) (payload : Word) : exec (.evt l st code payload) s =
      .next (schedule ({ s with sticky := s.sticky ||| 0x1000 }.setLink l
        ((s.link l).goodFrame.eventDropped s.repeatK)) l) := by
  refine (exec_evt_of_up hrun hup st code payload).trans (congrArg Host.Outcome.next ?_)
  refine (takeEvent_of_full (s := s.setLink l (s.link l).goodFrame) st code payload hfull).trans
    (congrArg (schedule · l) ?_)
  exact onLink_good { s with sticky := s.sticky ||| 0x1000 } l _

/-! What a stored and a dropped event leave of the link, by the pause, the high threshold and the repeat interval. -/

theorem eventStored_of_open (k : Link) (high interval : Nat) (hopen : k.evs.paused = false) :
    k.eventStored high interval =
      ({ k with evs := { k.evs with lost := 0, count := k.evs.count + 1 } } : Link).entryTest high := by
  simp [Link.eventStored, hopen]

theorem eventStored_of_paused (k : Link) (high interval : Nat) (hpaused : k.evs.paused = true) :
    k.eventStored high interval =
      ({ k with evs := { k.evs with lost := 0, count := k.evs.count + 1 } } : Link).repeatAdvance interval := by
  simp [Link.eventStored, hpaused]

theorem eventDropped_of_open (k : Link) (interval : Nat) (hopen : k.evs.paused = false) :
    k.eventDropped interval = { k with evs := { k.evs with lost := bump Config.byteMax k.evs.lost } } := by
  simp [Link.eventDropped, hopen]

theorem eventDropped_of_paused (k : Link) (interval : Nat) (hpaused : k.evs.paused = true) :
    k.eventDropped interval =
      ({ k with evs := { k.evs with lost := bump Config.byteMax k.evs.lost } } : Link).repeatAdvance interval := by
  simp [Link.eventDropped, hpaused]

theorem repeatAdvance_of_again (k : Link) {interval : Nat} (h : interval ≤ k.evs.pauseRepeat + 1) :
    k.repeatAdvance interval = Link.askPause { k with evs := { k.evs with pauseRepeat := 0 } } := if_pos h

theorem repeatAdvance_of_once (k : Link) {interval : Nat} (h : ¬interval ≤ k.evs.pauseRepeat + 1) :
    k.repeatAdvance interval = { k with evs := { k.evs with pauseRepeat := k.evs.pauseRepeat + 1 } } := if_neg h

theorem entryTest_of_high (k : Link) {high : Nat} (h : high < k.evs.count) : k.entryTest high =
    Link.askPause { k with evs := { k.evs with paused := true, pauseRepeat := 0 } } := if_pos h

theorem entryTest_of_low (k : Link) {high : Nat} (h : ¬high < k.evs.count) : k.entryTest high = k := if_neg h

/-- Settles O58: by the link state, the room in the queue, the pause and the two thresholds. -/
theorem eventsAreStoredOrDropped : Obligations.EventsAreStoredOrDropped := by
  intro s l st code payload hrun
  refine ⟨fun hd => exec_command_of_not_up hrun hd (f := .evt st code payload) (by simp), fun hup hroom => ?_,
    fun hup hfull => ?_⟩
  · have hstored := exec_evt_stored hrun hup hroom st code payload
    refine ⟨fun hopen hhigh => ?_, fun hopen hlow => ?_, fun hpaused hagain => ?_, fun hpaused honce => ?_⟩
    · rw [eventStored_of_open (s.link l).goodFrame _ _ hopen, entryTest_of_high] at hstored
      exacts [hstored, hhigh]
    · rw [eventStored_of_open (s.link l).goodFrame _ _ hopen, entryTest_of_low] at hstored
      exacts [hstored, Nat.not_lt.mpr hlow]
    · rw [eventStored_of_paused (s.link l).goodFrame _ _ hpaused, repeatAdvance_of_again] at hstored
      exacts [hstored, hagain]
    · rw [eventStored_of_paused (s.link l).goodFrame _ _ hpaused, repeatAdvance_of_once] at hstored
      exacts [hstored, honce]
  · have hdropped := exec_evt_dropped hrun hup hfull st code payload
    refine ⟨fun hopen => ?_, fun hpaused hagain => ?_, fun hpaused honce => ?_⟩
    · rw [eventDropped_of_open (s.link l).goodFrame _ hopen] at hdropped
      exact hdropped
    · rw [eventDropped_of_paused (s.link l).goodFrame _ hpaused, repeatAdvance_of_again] at hdropped
      exacts [hdropped, hagain]
    · rw [eventDropped_of_paused (s.link l).goodFrame _ hpaused, repeatAdvance_of_once] at hdropped
      exacts [hdropped, honce]

end

end Sys2Proof.Proofs.Received
end

section
/-! The statements on answers and acknowledgements: RETRY, the final answers, and ACKP (R9 to R13, R57 to R64). -/

namespace Sys2Proof.Proofs.Received

open Sys2Proof Sys2Proof.Machine Sys2Proof.Laws Sys2Proof.Proofs.Inversion Sys2Proof.Proofs.LinkStates
  Sys2Proof.Proofs.LinkFits

section

variable {s : State} {l : LinkId}

/-! ### The bytes of an answer (R133) -/

theorem eq_genOfByte_iff {g : Gen} {b : Byte} : g = genOfByte b ↔ g.toNat = b.toNat / 32 % 4 := by
  rw [← BitVec.toNat_inj, genOfByte, BitVec.extractLsb'_toNat, Nat.shiftRight_eq_div_pow]

theorem extractLsb'_zero {w : Nat} (x : BitVec w) (n : Nat) : x.extractLsb' 0 n = x.setWidth n := by
  simp [BitVec.extractLsb']

theorem seqOfByte_eq (b : Byte) : seqOfByte b = b.setWidth 6 := extractLsb'_zero b 6

/-- A stale answer is counted on its link alone. -/
theorem onLink_good_countStale (s : State) (l : LinkId) :
    (s.setLink l (s.link l).goodFrame).onLink l Link.countStale = s.setLink l { (s.link l).goodFrame with
      ctl := { (s.link l).ctl with stale := min 255 ((s.link l).ctl.stale + 1) } } := onLink_good s l _

/-! ### RETRY (R13) -/

theorem exec_retry_of_up (hrun : s.inReset = false) (hup : (s.link l).ctl.state = .up) (st : StationId) (b : Byte) :
    exec (.retry l st b) s = .next (takeRetry (s.setLink l (s.link l).goodFrame) l st b) :=
  (exec_command hrun l (.retry st b)).trans (congrArg Host.Outcome.next (whileUp_of_up (good_up hup)))

/-- The test that a RETRY passes (R9, R10). -/
theorem retry_answers_iff {t : Tag} {st : StationId} {b : Byte} :
    (t.answeredBy l st b && decide (t.state = .await)) = true ↔
      t.gen.toNat = b.toNat / 32 % 4 ∧ t.link = l ∧ t.station = st ∧ t.state = .await := by
  rw [Bool.and_eq_true, answeredBy_iff, eq_genOfByte_iff, decide_eq_true_eq, and_assoc, and_assoc]

theorem takeRetry_of_stale {st : StationId} {b : Byte} (h : ¬((s.tag (tagOfByte b)).gen.toNat = b.toNat / 32 % 4 ∧
    (s.tag (tagOfByte b)).link = l ∧ (s.tag (tagOfByte b)).station = st ∧ (s.tag (tagOfByte b)).state = .await)) :
    takeRetry s l st b = s.onLink l Link.countStale := if_neg (retry_answers_iff.not.mpr h)

/-- A RETRY that fits its tag: the tag completes with BUSY above the busy limit, and is deferred otherwise. -/
theorem takeRetry_of_answered {st : StationId} {b : Byte}
    (h : (s.tag (tagOfByte b)).gen.toNat = b.toNat / 32 % 4 ∧ (s.tag (tagOfByte b)).link = l ∧
      (s.tag (tagOfByte b)).station = st ∧ (s.tag (tagOfByte b)).state = .await) :
    takeRetry s l st b =
      if (s.link l).cfg.busyLimit ≠ 255 ∧ (s.link l).cfg.busyLimit < min 255 ((s.tag (tagOfByte b)).busy + 1) then
        completeTag (s.setTag (tagOfByte b) { s.tag (tagOfByte b) with
          busy := min 255 ((s.tag (tagOfByte b)).busy + 1) }) (tagOfByte b) (plainResult .busy)
      else s.setTag (tagOfByte b) { s.tag (tagOfByte b) with
        busy := min 255 ((s.tag (tagOfByte b)).busy + 1), state := .deferred
        timer := .retryDelay { elapsed := 0, duration := (s.link l).cfg.delay * 16 } } :=
  if_pos (retry_answers_iff.mpr h)

/-- Settles O57: by the link state, by what the tag byte names, and by the busy limit. -/
theorem retryDefersOrCompletes : Obligations.RetryDefersOrCompletes := by
  intro s l st b hrun
  have hcfg : ((s.setLink l (s.link l).goodFrame).link l).cfg = (s.link l).cfg := by rw [link_good]; rfl
  refine ⟨fun hd => exec_command_of_not_up hrun hd (f := .retry st b) (by simp), fun hup hnot => ?_,
    fun hup hanswered hlimit habove => ?_, fun hup hanswered hlimit => ?_⟩ <;>
    refine (exec_retry_of_up hrun hup st b).trans (congrArg Host.Outcome.next ?_)
  · exact (takeRetry_of_stale (s := s.setLink l (s.link l).goodFrame) hnot).trans (onLink_good_countStale s l)
  · rw [takeRetry_of_answered (s := s.setLink l (s.link l).goodFrame) hanswered, hcfg]
    exact if_pos ⟨hlimit, habove⟩
  · rw [takeRetry_of_answered (s := s.setLink l (s.link l).goodFrame) hanswered, hcfg]
    exact if_neg fun h => hlimit.elim h.1 (Nat.not_le.mpr h.2)

/-! ### The final answers (R9 to R12) -/

theorem takesFinal_iff {t : Tag} : t.takesFinal = true ↔
    t.state ∈ [TagState.await, .resend, .deferred, .ready] ∨ t.state = .queued ∧ 1 ≤ t.attempts := by
  unfold Tag.takesFinal
  cases t.state <;> simp

/-- What a final answer is tested by beside its kind. -/
def Answered (t : Tag) (l : LinkId) (st : StationId) (b : Byte) : Prop :=
  t.gen.toNat = b.toNat / 32 % 4 ∧ t.link = l ∧ t.station = st ∧
    (t.state ∈ [TagState.await, .resend, .deferred, .ready] ∨ t.state = .queued ∧ 1 ≤ t.attempts)

theorem final_answers_iff {t : Tag} {st : StationId} {b : Byte} {a : FinalAnswer} :
    (t.answeredBy l st b && a.fits t.kind && t.takesFinal) = true ↔ Answered t l st b ∧ a.fits t.kind = true := by
  rw [Bool.and_eq_true, Bool.and_eq_true, answeredBy_iff, eq_genOfByte_iff, takesFinal_iff, Answered]
  tauto

/-- A final answer in UP completes its tag where the tests pass, and is stale otherwise. -/
theorem handOn_final (s : State) (l : LinkId) (st : StationId) (b : Byte) (a : FinalAnswer) :
    (Answered (s.tag (tagOfByte b)) l st b → a.fits (s.tag (tagOfByte b)).kind = true →
      takeFinal (s.setLink l (s.link l).goodFrame) l st b a =
        schedule (completeTag (s.setLink l (s.link l).goodFrame) (tagOfByte b) a.result) l) ∧
    (¬Answered (s.tag (tagOfByte b)) l st b ∨ a.fits (s.tag (tagOfByte b)).kind = false →
      takeFinal (s.setLink l (s.link l).goodFrame) l st b a = s.setLink l { (s.link l).goodFrame with
        ctl := { (s.link l).ctl with stale := min 255 ((s.link l).ctl.stale + 1) } }) := by
  refine ⟨fun hanswered hfits => if_pos (final_answers_iff.mpr ⟨hanswered, hfits⟩), fun hnot => ?_⟩
  refine (if_neg fun h => ?_).trans (onLink_good_countStale s l)
  obtain ⟨hanswered, hfits⟩ := final_answers_iff.mp h
  exact hnot.elim (fun hn => hn hanswered) fun hn => Bool.noConfusion (hfits.symm.trans hn)

theorem exec_done_of_up (hrun : s.inReset = false) (hup : (s.link l).ctl.state = .up) (st : StationId) (b : Byte) :
    exec (.done l st b) s = .next (takeFinal (s.setLink l (s.link l).goodFrame) l st b .done) :=
  (exec_command hrun l (.done st b)).trans (congrArg Host.Outcome.next (whileUp_of_up (good_up hup)))

theorem exec_data_of_up (hrun : s.inReset = false) (hup : (s.link l).ctl.state = .up) (st : StationId) (b : Byte)
    (w : Word) : exec (.data l st b w) s = .next (takeFinal (s.setLink l (s.link l).goodFrame) l st b (.data w)) :=
  (exec_command hrun l (.data st b w)).trans (congrArg Host.Outcome.next (whileUp_of_up (good_up hup)))

theorem exec_fault_of_up (hrun : s.inReset = false) (hup : (s.link l).ctl.state = .up) (st : StationId) (b c : Byte) :
    exec (.fault l st b c) s = .next (takeFinal (s.setLink l (s.link l).goodFrame) l st b (.fault c)) :=
  (exec_command hrun l (.fault st b c)).trans (congrArg Host.Outcome.next (whileUp_of_up (good_up hup)))

/-- Settles O56: by the link state, and in UP by the tests and the kind of the answer. -/
theorem finalAnswersCompleteOrAreStale : Obligations.FinalAnswersCompleteOrAreStale := by
  intro s l st b hrun
  refine ⟨fun hup => ⟨fun hanswered hkind => ?_, fun hnot => ?_, fun w hanswered hkind => ?_, fun w hnot => ?_,
    fun c hanswered => ?_, fun c hnot => ?_⟩, fun hd => ⟨?_, fun w => ?_, fun c => ?_⟩⟩
  · exact (exec_done_of_up hrun hup st b).trans (congrArg Host.Outcome.next
      ((handOn_final s l st b .done).1 hanswered (congrArg (FinalAnswer.fits .done) hkind)))
  · exact (exec_done_of_up hrun hup st b).trans (congrArg Host.Outcome.next
      ((handOn_final s l st b .done).2 (hnot.imp id (congrArg (FinalAnswer.fits .done)))))
  · exact (exec_data_of_up hrun hup st b w).trans (congrArg Host.Outcome.next
      ((handOn_final s l st b (.data w)).1 hanswered (congrArg (FinalAnswer.fits (.data w)) hkind)))
  · exact (exec_data_of_up hrun hup st b w).trans (congrArg Host.Outcome.next
      ((handOn_final s l st b (.data w)).2 (hnot.imp id (congrArg (FinalAnswer.fits (.data w))))))
  · have hcompleted := (handOn_final s l st b (.fault c)).1 hanswered rfl
    rw [FinalAnswer.result, extractLsb'_zero] at hcompleted
    exact (exec_fault_of_up hrun hup st b c).trans (congrArg Host.Outcome.next hcompleted)
  · exact (exec_fault_of_up hrun hup st b c).trans (congrArg Host.Outcome.next
      ((handOn_final s l st b (.fault c)).2 (.inl hnot)))
  · exact exec_command_of_not_up hrun hd (f := .done st b) (by simp)
  · exact exec_command_of_not_up hrun hd (f := .data st b w) (by simp)
  · exact exec_command_of_not_up hrun hd (f := .fault st b c) (by simp)

/-! ### The class of an ACKP (R57) -/

theorem ackClass_cons (e : ReplayEntry) (more : List ReplayEntry) (n : Seq) : ackClass (e :: more) n =
    if (n - e.seq).toNat = 0 then .duplicate
    else if (n - e.seq).toNat ≤ more.length + 1 then .progress (n - e.seq).toNat else .outOfWindow := rfl

theorem ackClass_of_progress (e : ReplayEntry) {more : List ReplayEntry} {n : Nat} (hroom : more.length + 1 ≤ 8)
    (hpos : 1 ≤ n) (hle : n ≤ more.length + 1) :
    ackClass (e :: more) (e.seq + BitVec.ofNat 6 n) = .progress n := by
  have hn : (e.seq + BitVec.ofNat 6 n - e.seq).toNat = n := by
    rw [BitVec.add_comm, BitVec.add_sub_cancel, BitVec.toNat_ofNat]
    exact Nat.mod_eq_of_lt (by omega)
  rw [ackClass_cons, hn, if_neg (Nat.ne_of_gt hpos), if_pos hle]

theorem ackClass_of_oldest (e : ReplayEntry) (more : List ReplayEntry) :
    ackClass (e :: more) e.seq = .duplicate := by
  rw [ackClass_cons, BitVec.sub_self]
  rfl

/-- A number that is none of those from the oldest to next_seq is out of the window. -/
theorem ackClass_of_outside {replay : List ReplayEntry} {x : Seq}
    (h : ∀ e n, replay.head? = some e → n ≤ replay.length → x ≠ e.seq + BitVec.ofNat 6 n) :
    ackClass replay x = .outOfWindow := by
  cases replay with
  | nil => rfl
  | cons e more =>
    have hself : e.seq + BitVec.ofNat 6 (x - e.seq).toNat = x := by
      rw [BitVec.ofNat_toNat, BitVec.setWidth_eq, BitVec.add_comm, BitVec.sub_add_cancel]
    have hfar : ¬(x - e.seq).toNat ≤ more.length + 1 := fun hle => h e _ rfl hle hself.symm
    rw [ackClass_cons, if_neg (by omega), if_neg hfar]

/-! ### ACKP (R57 to R61) -/

theorem exec_ackp_of_up (hrun : s.inReset = false) (hup : (s.link l).ctl.state = .up) (st : StationId) (b : Byte) :
    exec (.ackp l st b) s = .next (takeAckp (s.setLink l (s.link l).goodFrame) l (b.setWidth 6)) := by
  rw [← seqOfByte_eq]
  exact (exec_command hrun l (.ackp st b)).trans (congrArg Host.Outcome.next (whileUp_of_up (good_up hup)))

theorem takeAckp_of_progress {x : Seq} {n : Nat} (h : ackClass (s.link l).pst.replay x = .progress n) :
    takeAckp s l x = schedule (endPassIfOver (s.onLink l (Link.ackProgress n)) l) l := by
  rw [takeAckp, h]

theorem takeAckp_of_duplicate {x : Seq} (h : ackClass (s.link l).pst.replay x = .duplicate) :
    takeAckp s l x = if (s.link l).ackDuplicate.pst.duplicates = 2 ∧ (s.link l).pst.pass = .none
      then schedule (askPass (s.onLink l Link.ackDuplicate) l) l else s.onLink l Link.ackDuplicate := by
  simp only [takeAckp, h, link_onLink_self]
  rfl

theorem takeAckp_of_outside {x : Seq} (h : ackClass (s.link l).pst.replay x = .outOfWindow) :
    takeAckp s l x = s.onLink l Link.countStale := by
  rw [takeAckp, h]

/-- A progress acknowledgement before the test for the end of the pass. -/
theorem exec_ackp_progress (hrun : s.inReset = false) (hup : (s.link l).ctl.state = .up) {st : StationId} {b : Byte}
    {e : ReplayEntry} {more : List ReplayEntry} {n : Nat} (hreplay : (s.link l).pst.replay = e :: more)
    (hroom : more.length + 1 ≤ 8) (hpos : 1 ≤ n) (hle : n ≤ more.length + 1)
    (hb : b.setWidth 6 = e.seq + BitVec.ofNat 6 n) : exec (.ackp l st b) s =
      .next (schedule (endPassIfOver (s.setLink l ((s.link l).goodFrame.ackProgress n)) l) l) := by
  refine (exec_ackp_of_up hrun hup st b).trans (congrArg Host.Outcome.next ?_)
  rw [takeAckp_of_progress (n := n), onLink_good]
  rw [link_good, hb]
  exact (congrArg (ackClass · _) hreplay).trans (ackClass_of_progress e hroom hpos hle)

theorem afterProgress_of_kept {q : Seq} {removed rest : List ReplayEntry} (h : ∀ x ∈ removed, x.seq ≠ q) :
    ReplayPass.afterProgress (.active (some q)) removed rest = .active (some q) :=
  if_neg fun hany => by
    obtain ⟨x, hx, hq⟩ := List.any_eq_true.mp hany
    exact h x hx (of_decide_eq_true hq)

theorem afterProgress_of_removed {q : Seq} {x : ReplayEntry} {removed rest : List ReplayEntry} (hx : x ∈ removed)
    (hq : x.seq = q) : ReplayPass.afterProgress (.active (some q)) removed rest = .active (rest.head?.map (·.seq)) :=
  if_pos (List.any_eq_true.mpr ⟨x, hx, decide_eq_true hq⟩)

theorem ackProgress_good {k : Link} {n : Nat} {pass : ReplayPass} {timer : Option Countdown}
    (hpass : k.pst.pass.afterProgress (k.pst.replay.take n) (k.pst.replay.drop n) = pass)
    (htimer : (if k.pst.pass = .none then (if k.pst.replay.drop n = [] then none else k.replayStart)
      else k.pst.timer) = timer) : k.goodFrame.ackProgress n = { k.goodFrame with pst := { k.pst with
        replay := k.pst.replay.drop n, attempts := 0, duplicates := 0, pass := pass, timer := timer } } := by
  subst hpass htimer
  rfl

/-- The pass runs on, or none was in progress: the link is as the acknowledgement left it. -/
theorem endPassIfOver_ackProgress {n : Nat} {pass : ReplayPass} {timer : Option Countdown}
    (hpass : (s.link l).pst.pass.afterProgress ((s.link l).pst.replay.take n) ((s.link l).pst.replay.drop n) = pass)
    (htimer : (if (s.link l).pst.pass = .none then
      (if (s.link l).pst.replay.drop n = [] then none else (s.link l).replayStart) else (s.link l).pst.timer) = timer)
    (hon : pass = .active none → ∃ f, (s.link l).sch.tx = .sending f .pass) :
    endPassIfOver (s.setLink l ((s.link l).goodFrame.ackProgress n)) l = s.setLink l { (s.link l).goodFrame with
      pst := { (s.link l).pst with
        replay := (s.link l).pst.replay.drop n, attempts := 0, duplicates := 0, pass := pass, timer := timer } } := by
  rw [ackProgress_good hpass htimer, endPassIfOver, link_setLink_self, if_neg fun hover => ?_]
  obtain ⟨hnone, hline⟩ := passOver_iff.mp hover
  obtain ⟨f, hf⟩ := hon hnone
  exact hline f hf

/-- The pass is over with nothing left in its list: it ends. -/
theorem endPassIfOver_ackProgress_of_over {n : Nat} {timer : Option Countdown}
    (hpass : (s.link l).pst.pass.afterProgress ((s.link l).pst.replay.take n) ((s.link l).pst.replay.drop n) =
      .active none)
    (htimer : (if (s.link l).pst.pass = .none then
      (if (s.link l).pst.replay.drop n = [] then none else (s.link l).replayStart) else (s.link l).pst.timer) = timer)
    (hrest : (s.link l).pst.replay.drop n = []) (hline : ∀ f, (s.link l).sch.tx ≠ .sending f .pass) :
    endPassIfOver (s.setLink l ((s.link l).goodFrame.ackProgress n)) l = s.setLink l { (s.link l).goodFrame with
      pst := { (s.link l).pst with
        replay := (s.link l).pst.replay.drop n, attempts := 0, duplicates := 0, pass := .none, timer := timer } } := by
  rw [ackProgress_good hpass htimer, endPassIfOver, link_setLink_self, if_pos]
  on_goal 2 => exact passOver_iff.mpr ⟨rfl, hline⟩
  rw [endPass_of_nil _ _ (by rw [link_setLink_self]; exact hrest), onLink_eq_setLink,
    link_setLink_self, setLink_setLink]

/-- Settles O54: the pass position after the acknowledgement decides whether the pass is over. -/
theorem progressAcknowledgementRemovesEntries : Obligations.ProgressAcknowledgementRemovesEntries := by
  intro s l st b e more n hrun hup hreplay hroom hpos hle hb
  have hexec := exec_ackp_progress (st := st) hrun hup hreplay hroom hpos hle hb
  have hkeeps {p : ReplayPass} (hpass : (s.link l).pst.pass = p) (hactive : p ≠ .none) :
      (if (s.link l).pst.pass = .none then
        (if (s.link l).pst.replay.drop n = [] then none else (s.link l).replayStart)
        else (s.link l).pst.timer) = (s.link l).pst.timer := if_neg (by rw [hpass]; exact hactive)
  refine ⟨fun hpass => ?_, fun q hpass hkept => ?_, fun q x hpass hx hq => ?_, fun hpass hline => ?_⟩
  · rw [hexec, endPassIfOver_ackProgress (pass := (s.link l).pst.pass) (by rw [hpass]; rfl) (if_pos hpass)
      fun h => ReplayPass.noConfusion (hpass.symm.trans h)]
    rfl
  · rw [hexec, endPassIfOver_ackProgress (pass := (s.link l).pst.pass)
      (by rw [hpass]; exact afterProgress_of_kept hkept)
      (hkeeps hpass (by simp)) (by simp [hpass])]
  · have hmoved := (congrArg (ReplayPass.afterProgress · _ _) hpass).trans
      (afterProgress_of_removed (rest := (s.link l).pst.replay.drop n) hx hq)
    have htimer := hkeeps hpass (by simp)
    refine ⟨fun hrest => ?_, fun hrest hline => ?_, fun hrest hline => ?_⟩ <;> rw [hexec]
    · rw [endPassIfOver_ackProgress hmoved htimer (fun h => absurd (by simpa using h) hrest)]
    · rw [endPassIfOver_ackProgress_of_over (by rw [hmoved, hrest]; rfl) htimer hrest hline]
    · rw [endPassIfOver_ackProgress (pass := .active none) (by rw [hmoved, hrest]; rfl) htimer fun _ => hline]
  · rw [hexec, endPassIfOver_ackProgress (pass := (s.link l).pst.pass) (by rw [hpass]; rfl) (hkeeps hpass (by simp))
      fun _ => hline]

/-- Settles O55: by the link state, and in UP by the class of the number and the duplicate count. -/
theorem otherAcknowledgementsLeaveTheList : Obligations.OtherAcknowledgementsLeaveTheList := by
  intro s l st b hrun
  refine ⟨fun hd => exec_command_of_not_up hrun hd (f := .ackp st b) (by simp),
    fun hup e more hreplay hb => ?_, fun hup hroom hout => ?_⟩
  · have hclass : ackClass ((s.setLink l (s.link l).goodFrame).link l).pst.replay (b.setWidth 6) = .duplicate := by
      rw [link_good, hb]
      exact (congrArg (ackClass · _) hreplay).trans (ackClass_of_oldest e more)
    have hexec := (exec_ackp_of_up hrun hup st b).trans (congrArg Host.Outcome.next (takeAckp_of_duplicate hclass))
    rw [link_good, onLink_good] at hexec
    have hdup : (s.link l).goodFrame.ackDuplicate.pst.duplicates = min 2 ((s.link l).pst.duplicates + 1) := rfl
    refine ⟨fun hfew => ?_, fun hmany hpass hlimit => ?_, fun hmany hpass hlimit => ?_⟩
    · rw [if_neg fun h => ?_] at hexec
      · exact hexec
      · rw [hdup] at h
        exact hfew.elim (by omega) fun hne => hne h.2
    · have hhead : (s.link l).pst.replay.head?.map (·.seq) = some e.seq := by rw [hreplay]; rfl
      rw [if_pos ⟨by rw [hdup]; omega, hpass⟩, askPass_setLink_of_le
        (k := (s.link l).goodFrame.ackDuplicate) hlimit] at hexec
      rw [hexec, ← hhead]
      rfl
    · have htwo : min 2 ((s.link l).pst.duplicates + 1) = 2 := by omega
      rw [if_pos ⟨by rw [hdup]; omega, hpass⟩, schedule_askPass_of_lt
        (k := (s.link l).goodFrame.ackDuplicate) hup hlimit] at hexec
      rw [hexec, ← htwo]
      rfl
  · have hclass : ackClass ((s.setLink l (s.link l).goodFrame).link l).pst.replay (b.setWidth 6) = .outOfWindow := by
      rw [link_good]
      exact ackClass_of_outside hout
    refine (exec_ackp_of_up hrun hup st b).trans (congrArg Host.Outcome.next ?_)
    rw [takeAckp_of_outside hclass, onLink_good_countStale]

end

end Sys2Proof.Proofs.Received
end

section
/-! The statements on entry into UP, on malformed and aborted frames, and on single bytes (R134 to R139, R150 to
R153). -/

namespace Sys2Proof.Proofs.Received

open Sys2Proof Sys2Proof.Machine Sys2Proof.Laws Sys2Proof.Proofs.Inversion Sys2Proof.Proofs.LinkStates

section

variable {s : State} {l : LinkId}

/-! ### HELLO and HELLO_ACK (R150 to R153) -/

theorem linkChangeBit_eq (l : LinkId) : linkChangeBit l = BitVec.ofNat 16 (2 ^ l.val) := by
  revert l
  decide

/-- The whole link at its entry into UP (R152, R121). -/
theorem cameUp_eq (low : Nat) (k : Link) : cameUp low k = { k with
    ctl := { k.ctl with state := .up, helloTimer := none }
    sch := { k.sch with
      helloDue := false, lastPause := .none, outPause := false, holdTimer := none
      pendingPause := if low < k.evs.count then .pause else k.sch.pendingPause }
    pst := .clear
    evs := { k.evs with paused := decide (low < k.evs.count), pauseRepeat := 0 } } := by
  by_cases hlow : low < k.evs.count <;> simp [cameUp, Link.enterUp, Link.enterUpEvents, Link.askPause, hlow]

/-- The entry into UP with an empty ready-deferred list: the link comes up, and the event ends with its pick. -/
theorem enterUp_of_ready_nil (h : (s.link l).sch.ready = []) : enterUp s l =
    { s with sticky := s.sticky ||| BitVec.ofNat 16 (2 ^ l.val) }.setLink l
      (pick s.tags (cameUp s.lowThreshold (s.link l))) := by
  have hlink : ((s.onLink l (cameUp s.lowThreshold)).raiseBit (linkChangeBit l)).link l =
      cameUp s.lowThreshold (s.link l) := by rw [link_raiseBit, link_onLink_self]
  rw [enterUp_eq, schedule_of_ready_nil _ _ (by rw [hlink, cameUp_eq]; exact h), hlink, onLink_eq_setLink,
    ← linkChangeBit_eq]
  exact setLink_setLink { s with sticky := s.sticky ||| linkChangeBit l } l _ _

theorem takeHello_of_training (hst : (s.link l).ctl.state = .training) : takeHello s l =
    enterUp (s.onLink l fun k => { k with sch := { k.sch with helloAckPending := true } }) l := by
  simp only [takeHello, hst]

theorem takeHello_of_up (hst : (s.link l).ctl.state = .up) : takeHello s l =
    enterUp ((flush s l .partnerReset true).onLink l fun k => { k with
      sch := { k.sch with helloAckPending := true } }) l := by
  simp only [takeHello, hst]

theorem takeHello_of_down (hst : (s.link l).ctl.state = .off ∨ (s.link l).ctl.state = .failed) :
    takeHello s l = s := by
  obtain h | h := hst <;> simp only [takeHello, h]

theorem takeHelloAck_of_training (hst : (s.link l).ctl.state = .training) : takeHelloAck s l = enterUp s l := by
  simp only [takeHelloAck, hst]

theorem takeHelloAck_of_up (hst : (s.link l).ctl.state = .up) :
    takeHelloAck s l = s.onLink l Link.countStale := by
  simp only [takeHelloAck, hst]

theorem takeHelloAck_of_down (hst : (s.link l).ctl.state = .off ∨ (s.link l).ctl.state = .failed) :
    takeHelloAck s l = s := by
  obtain h | h := hst <;> simp only [takeHelloAck, h]

/-- The entry into UP by a HELLO: HELLO_ACK is asked first. -/
theorem enterUp_of_hello (h : (s.link l).sch.ready = []) :
    enterUp (s.onLink l fun k => { k with sch := { k.sch with helloAckPending := true } }) l =
      { s with sticky := s.sticky ||| BitVec.ofNat 16 (2 ^ l.val) }.setLink l (pick s.tags (cameUp s.lowThreshold
        { s.link l with sch := { (s.link l).sch with helloAckPending := true } })) := by
  rw [enterUp_of_ready_nil (by rw [link_onLink_self]; exact h), link_onLink_self, onLink_eq_setLink]
  exact setLink_setLink { s with sticky := s.sticky ||| BitVec.ofNat 16 (2 ^ l.val) } l _ _

theorem exec_hello (hrun : s.inReset = false) (st : StationId) (version : Byte) :
    exec (.hello l st version) s = .next (takeHello (s.setLink l (s.link l).goodFrame) l) :=
  exec_command hrun l (.hello st version)

theorem exec_helloAck (hrun : s.inReset = false) (st : StationId) (version : Byte) :
    exec (.helloAck l st version) s = .next (takeHelloAck (s.setLink l (s.link l).goodFrame) l) :=
  exec_command hrun l (.helloAck st version)

/-- Settles O53: by the state of the link. -/
theorem helloBringsTheLinkUp : Obligations.HelloBringsTheLinkUp := by
  intro s l st version hrun
  have hgood := link_good s l
  refine ⟨fun hst hready => ⟨?_, ?_⟩, fun hst => ⟨?_, ?_⟩, fun hst => ⟨?_, ?_⟩⟩
  · rw [exec_hello hrun, takeHello_of_training (by rw [hgood]; exact hst),
      enterUp_of_hello (by rw [hgood]; exact hready), hgood, cameUp_eq]
    exact congrArg Host.Outcome.next
      (setLink_setLink { s with sticky := s.sticky ||| BitVec.ofNat 16 (2 ^ l.val) } l _ _)
  · rw [exec_helloAck hrun, takeHelloAck_of_training (by rw [hgood]; exact hst),
      enterUp_of_ready_nil (by rw [hgood]; exact hready), hgood, cameUp_eq]
    exact congrArg Host.Outcome.next
      (setLink_setLink { s with sticky := s.sticky ||| BitVec.ofNat 16 (2 ^ l.val) } l _ _)
  · intro f
    have hflushed : f.link l = (s.link l).goodFrame.flushed s.freeCount l true :=
      (flush_link ..).trans ((if_pos rfl).trans (by rw [hgood]; rfl))
    have hevs : (f.link l).evs = (s.link l).evs := by rw [hflushed]; rfl
    rw [exec_hello hrun, takeHello_of_up (by rw [hgood]; exact hst), enterUp_of_hello (by rw [hflushed]; rfl),
      cameUp_eq, ← hevs]
    rfl
  · rw [exec_helloAck hrun, takeHelloAck_of_up (by rw [hgood]; exact hst), onLink_good]
    rfl
  · rw [exec_hello hrun, takeHello_of_down (by rw [hgood]; exact hst)]
  · rw [exec_helloAck hrun, takeHelloAck_of_down (by rw [hgood]; exact hst)]

/-! ### Malformed and aborted frames (R135, R138, R139) -/

theorem onLink_hunting (s : State) (l : LinkId) :
    s.onLink l Link.hunting = s.setLink l { s.link l with rcv := (s.link l).rcv.hunt } := rfl

theorem takeMalformed_of_not_judging (h : ¬(s.link l).judging = true) :
    takeMalformed s l = s.setLink l { s.link l with rcv := (s.link l).rcv.hunt } := by
  rw [takeMalformed, onLink_hunting, link_setLink_self]
  exact if_neg h

/-- The link after a malformed frame that counts. -/
def counted (k : Link) : Link := Link.countBad { k with rcv := k.rcv.hunt }

theorem takeMalformed_of_judging (h : (s.link l).judging = true) : takeMalformed s l =
    if 8 ≤ (s.link l).rcv.consecutiveBad + 1 then failLink (s.setLink l (counted (s.link l))) l .badFrames
    else s.setLink l (counted (s.link l)) := by
  rw [takeMalformed, onLink_hunting, link_setLink_self]
  refine (if_pos h).trans ?_
  rw [onLink_eq_setLink, link_setLink_self, setLink_setLink]
  exact ite_congr (by rw [link_setLink_self]; rfl) (fun _ => rfl) fun _ => rfl

/-- Settles O59: by the state of the link and by the consecutive-bad count. -/
theorem malformedFramesCountAndFail : Obligations.MalformedFramesCountAndFail := by
  intro s l hrun
  have hexec : exec (.malformedFrame l) s = .next (takeMalformed s l) := unlessReset_of_running s _ hrun
  refine ⟨unlessReset_of_running s _ hrun, fun hst => ?_, fun hst hfew => ?_, fun hst hmany => ?_⟩ <;>
    refine hexec.trans (congrArg Host.Outcome.next ?_)
  · exact takeMalformed_of_not_judging fun h => by
      obtain hd | hd := hst <;> simp [judging_iff, hd] at h
  · rw [takeMalformed_of_judging (judging_iff.mpr hst), if_neg (Nat.not_le.mpr hfew)]
    rfl
  · rw [takeMalformed_of_judging (judging_iff.mpr hst), if_pos hmany]
    rfl

/-! ### Single bytes (R134) -/

theorem closes_iff {r : Receiver} {b : Byte} : r.closes b = true ↔
    r.framing = .inFrame ∧ b = 0xA5 ∧ (1 ≤ r.byteCount ∨ r.badMark = true) := by
  simp [Receiver.closes, Receiver.holds, Config.flagByte, and_assoc]

theorem aborts_iff {r : Receiver} {b : Byte} : r.aborts b = true ↔ r.framing = .escaped ∧ b = 0xA5 := by
  simp [Receiver.aborts, Config.flagByte]

/-- A byte that neither closes nor aborts a frame changes the receiver alone. -/
theorem exec_byteReceived_of_open (hrun : s.inReset = false) {b : Byte} {r : Receiver}
    (hclose : ¬((s.link l).rcv.framing = .inFrame ∧ b = 0xA5 ∧
      (1 ≤ (s.link l).rcv.byteCount ∨ (s.link l).rcv.badMark = true)))
    (habort : ¬((s.link l).rcv.framing = .escaped ∧ b = 0xA5)) (hr : (s.link l).rcv.take b = r) :
    exec (.byteReceived l b) s = .next (s.setLink l { s.link l with rcv := r }) := by
  subst hr
  refine (unlessReset_of_running s _ hrun).trans (congrArg Host.Outcome.next ?_)
  rw [takeByte, if_neg (closes_iff.not.mpr hclose), if_neg (aborts_iff.not.mpr habort)]
  rfl

theorem exec_byteReceived_of_close (hrun : s.inReset = false) {b : Byte} (hin : (s.link l).rcv.framing = .inFrame)
    (hb : b = 0xA5) (hholds : 1 ≤ (s.link l).rcv.byteCount ∨ (s.link l).rcv.badMark = true) :
    (∀ f, (s.link l).rcv.judge = some f → exec (.byteReceived l b) s = exec (f.command l) s) ∧
    ((s.link l).rcv.judge = none → exec (.byteReceived l b) s = exec (.malformedFrame l) s) := by
  have hclose := closes_iff.mpr ⟨hin, hb, hholds⟩
  refine ⟨fun f hf => ?_, fun hnone => ?_⟩
  · rw [exec_command hrun]
    refine (unlessReset_of_running s _ hrun).trans (congrArg Host.Outcome.next ?_)
    simp only [takeByte, if_pos hclose, hf]
    rfl
  · refine (unlessReset_of_running s _ hrun).trans (.trans (congrArg Host.Outcome.next ?_)
      (unlessReset_of_running s (takeMalformed s l) hrun).symm)
    simp only [takeByte, if_pos hclose, hnone]

theorem exec_byteReceived_of_abort (hrun : s.inReset = false) {b : Byte} (hin : (s.link l).rcv.framing = .escaped)
    (hb : b = 0xA5) : exec (.byteReceived l b) s = exec (.abortedFrame l) s := by
  refine (unlessReset_of_running s _ hrun).trans (.trans (congrArg Host.Outcome.next ?_)
    (unlessReset_of_running s (takeAborted s l) hrun).symm)
  rw [takeByte, if_neg (closes_iff.not.mpr (by simp [hin])), if_pos (aborts_iff.mpr ⟨hin, hb⟩)]

/-! The rows of the framing table, as what `Receiver.take` gives (R134). -/

theorem take_of_hunting {r : Receiver} (h : r.framing = .hunting) (b : Byte) :
    r.take b = if b = 0xA5 then r.openFrame else r := by
  rw [Receiver.take, h]
  rfl

theorem take_of_inFrame {r : Receiver} (h : r.framing = .inFrame) (b : Byte) :
    r.take b = if b = 0xA5 then (if r.holds then r.hunt else r)
      else if b = 0x5A then { r with framing := .escaped } else r.append b := by
  rw [Receiver.take, h]
  rfl

theorem take_of_escaped {r : Receiver} (h : r.framing = .escaped) (b : Byte) :
    r.take b = if b = 0x85 then r.append 0xA5 else if b = 0x7A then r.append 0x5A
      else if b = 0xA5 then r.hunt else { r with framing := .inFrame, badMark := true } := by
  rw [Receiver.take, h]
  rfl

theorem goodFrame_eq (k : Link) : k.goodFrame = { k with rcv := { k.rcv with
    framing := .hunting, kept := [], byteCount := 0, badMark := false
    consecutiveBad := if k.ctl.state = .training ∨ k.ctl.state = .up then 0 else k.rcv.consecutiveBad } } := by
  simp only [Link.goodFrame, Receiver.hunt, judging_iff]

/-- Settles O60: the rows of the table in order, by the framing state and the byte. -/
theorem bytesFollowTheFramingTable : Obligations.BytesFollowTheFramingTable := by
  refine ⟨fun l st b c w => ⟨rfl, rfl, rfl, rfl, rfl, rfl, rfl, rfl, rfl, rfl⟩, fun s l b hrun => ?_⟩
  have hself : s.setLink l { s.link l with rcv := (s.link l).rcv } = s := setLink_link s l
  refine ⟨goodFrame_eq _, fun hf hb => ?_, fun hf hb => ?_, fun hf hb hcount hmark => ?_,
    fun hf hb hholds => exec_byteReceived_of_close hrun hf hb hholds, fun hf hb => ?_, fun hf hb hb' => ?_,
    fun hf hb => ?_, fun hf hb => ?_, fun hf hb => exec_byteReceived_of_abort hrun hf hb, fun hf hb hb' hb'' => ?_⟩
  · exact exec_byteReceived_of_open hrun (by simp [hf]) (by simp [hf]) ((take_of_hunting hf b).trans (if_pos hb))
  · rw [exec_byteReceived_of_open hrun (by simp [hf]) (by simp [hf]) ((take_of_hunting hf b).trans (if_neg hb)), hself]
  · have hempty : ¬(s.link l).rcv.holds = true := by simp [Receiver.holds, hcount, hmark]
    rw [exec_byteReceived_of_open hrun (by simp [hcount, hmark]) (by simp [hf])
      ((take_of_inFrame hf b).trans ((if_pos hb).trans (if_neg hempty))), hself]
  · subst hb
    exact exec_byteReceived_of_open hrun (by simp) (by simp) (take_of_inFrame hf _)
  · exact exec_byteReceived_of_open hrun (fun h => hb h.2.1) (fun h => hb h.2)
      ((take_of_inFrame hf b).trans ((if_neg hb).trans (if_neg hb')))
  · subst hb
    exact exec_byteReceived_of_open hrun (by simp) (by simp) (take_of_escaped hf _)
  · subst hb
    exact exec_byteReceived_of_open hrun (by simp) (by simp) (take_of_escaped hf _)
  · exact exec_byteReceived_of_open hrun (fun h => hb'' h.2.1) (fun h => hb'' h.2)
      ((take_of_escaped hf b).trans ((if_neg hb).trans ((if_neg hb').trans (if_neg hb''))))

end

end Sys2Proof.Proofs.Received
end

section
/-! The statements on ticks, age counts and the expiries of timers (R6, R62, R64, R71, R80, R115, R149, R165, R167). -/

namespace Sys2Proof.Proofs.Timers

open Sys2Proof Sys2Proof.Machine Sys2Proof.Laws Sys2Proof.Proofs.Registers Sys2Proof.Proofs.Received

section

variable {s : State}

/-! ### Countdowns and age counts under many ticks (R167) -/

theorem countdown_due_iff (c : Countdown) : c.due = true ↔ c.duration < c.elapsed := decide_eq_true_iff

/-- A timer started with a duration counts ticks up to the one at which it is due. -/
theorem tick_iterate_startTimer (us n : Nat) :
    Countdown.tick^[n] (startTimer us) = { elapsed := min (us + 1) n, duration := us } := by
  induction n with
  | zero => rfl
  | succ n ih =>
    rw [Function.iterate_succ_apply', ih, Countdown.tick]
    congr 1
    show min (us + 1) (min (us + 1) n + 1) = min (us + 1) (n + 1)
    omega

theorem age_tick_iterate (a : AgeCount) (n : Nat) : (AgeCount.tick^[n] a).count = a.count := by
  induction n with
  | zero => rfl
  | succ n ih => rw [Function.iterate_succ_apply']; exact ih

/-- A fresh age count counts ticks up to the one at which its last increment is due. -/
theorem age_tick_iterate_fresh (n : Nat) : AgeCount.tick^[n] AgeCount.fresh = { count := 0, ticks := min 4081 n } := by
  induction n with
  | zero => rfl
  | succ n ih =>
    rw [Function.iterate_succ_apply', ih, AgeCount.tick]
    congr 1
    simp only [Config.ageUnit, Config.byteMax]
    omega

theorem age_due_iff (a : AgeCount) : a.due = true ↔ a.count < 255 ∧ 16 * (a.count + 1) + 1 ≤ a.ticks := by
  rw [AgeCount.due, Bool.and_eq_true, decide_eq_true_eq, decide_eq_true_eq]
  rfl

/-- Settles O40: the whole next state, then the timers and the age counts under any number of ticks. -/
theorem tickIsCountedEverywhere : Obligations.TickIsCountedEverywhere := by
  refine ⟨fun s hrun => ⟨tick s, unlessReset_of_running s _ hrun, rfl, fun i => ?_, fun l => tick_link s l, rfl, rfl⟩,
    fun c => ⟨rfl, rfl, rfl⟩, countdown_due_iff, fun us n => ⟨rfl, ?_, ?_⟩, rfl, age_tick_iterate, fun n count => ?_⟩
  · exact getElem_mapTable (fun t : Tag => { t with timer := t.timer.tick }) s.tags i
  · rw [tick_iterate_startTimer]
  · rw [tick_iterate_startTimer, countdown_due_iff]
    show us < min (us + 1) n ↔ us + 1 ≤ n
    omega
  · rw [age_tick_iterate_fresh, age_due_iff]
    show count < 255 ∧ 16 * (count + 1) + 1 ≤ min 4081 n ↔ count < 255 ∧ 16 * (count + 1) + 1 ≤ n
    omega

/-! ### Age increments (R71, R80, R108, R115) -/

theorem age_increment_of_due {a : AgeCount} (h : a.due = true) : a.increment = { a with count := a.count + 1 } := by
  obtain ⟨hlt, -⟩ := (age_due_iff a).mp h
  rw [AgeCount.increment, bump, Config.byteMax, Nat.min_eq_right (Nat.succ_le_of_lt hlt)]

theorem ageExpires_of_head {limit : Nat} {a : AgeCount} (hdue : a.due = true) (hlimit : a.count + 1 = limit) :
    ageExpires limit (some a) = true := by
  simp [ageExpires, hdue, hlimit]

/-- The change of one entry of a list is that of `List.set` there. -/
theorem modify_eq_set {α : Type} {f : α → α} {xs : List α} {n : Nat} {x : α} (h : xs[n]? = some x) :
    xs.modify n f = xs.set n (f x) := by
  rw [List.modify_eq_set_getElem?, h]
  rfl

theorem cqCondition_of_aged {t : State} {r : CplRecord} {rest : List CplRecord} (hcq : t.cq = r :: rest)
    (hlimit : t.cqAge ≠ 0) (haged : t.cqAge ≤ r.age.count) : cqCondition t = true := by
  simp [cqCondition, cqAged, hcq, hlimit, haged]

theorem eqCondition_of_aged {t : State} {r : EvtRecord} {rest : List EvtRecord} (heq : t.eq = r :: rest)
    (hlimit : t.eqAge ≠ 0) (haged : t.eqAge ≤ r.age.count) : eqCondition t = true := by
  simp [eqCondition, eqAged, heq, hlimit, haged]

theorem intStatus_cq_of_condition {t : State} (h : cqCondition t = true) : (intStatus t).getLsbD 8 = true := by
  simp [intStatus, h, cqBit]

theorem intStatus_eq_of_condition {t : State} (h : eqCondition t = true) : (intStatus t).getLsbD 9 = true := by
  simp [intStatus, h, eqBit]

/-- Settles O41: the increment of any record, and of a head whose count reaches the limit. -/
theorem ageCountsIncrement : Obligations.AgeCountsIncrement := by
  intro s hrun
  refine ⟨fun n r hr hdue => ?_, fun n r hr hdue => ?_, fun r rest hcq hdue hlimit => ?_,
    fun r rest heq hdue hlimit => ?_⟩
  · refine (unlessReset_of_running s _ hrun).trans (congrArg Host.Outcome.next ?_)
    rw [ageIncrement, modify_eq_set hr, if_pos hdue, age_increment_of_due hdue]
  · refine (unlessReset_of_running s _ hrun).trans (congrArg Host.Outcome.next ?_)
    rw [ageIncrement, modify_eq_set hr, if_pos hdue, age_increment_of_due hdue]
  · have hcond := cqCondition_of_aged (t := { s with
      cq := { r with age := { r.age with count := s.cqAge } } :: rest }) rfl (hlimit ▸ Nat.succ_ne_zero _) le_rfl
    refine ⟨_, (unlessReset_of_running s _ hrun).trans (congrArg Host.Outcome.next ?_), hcond,
      intStatus_cq_of_condition hcond, rfl⟩
    have hexpires : ageExpires s.cqAge (s.cq.head?.map (·.age)) = true := by
      rw [hcq]
      exact ageExpires_of_head hdue hlimit
    rw [if_pos hexpires, ageIncrement, modify_eq_set (x := r) (by rw [hcq]; rfl), if_pos hdue,
      age_increment_of_due hdue, hlimit, hcq]
    rfl
  · have hcond := eqCondition_of_aged (t := { s with
      eq := { r with age := { r.age with count := s.eqAge } } :: rest }) rfl (hlimit ▸ Nat.succ_ne_zero _) le_rfl
    refine ⟨_, (unlessReset_of_running s _ hrun).trans (congrArg Host.Outcome.next ?_), hcond,
      intStatus_eq_of_condition hcond, rfl⟩
    have hexpires : ageExpires s.eqAge (s.eq.head?.map (·.age)) = true := by
      rw [heq]
      exact ageExpires_of_head hdue hlimit
    rw [if_pos hexpires, ageIncrement, modify_eq_set (x := r) (by rw [heq]; rfl), if_pos hdue,
      age_increment_of_due hdue, hlimit, heq]
    rfl

/-! ### The expiries of reply, replay and HELLO interval timers (R6, R62, R64, R149) -/

theorem replyDue_of_past {t : Tag} {c : Countdown} (hst : t.state = .await) (ht : t.timer = .reply c)
    (hpast : c.duration < c.elapsed) : t.replyDue = true := by
  simp only [Tag.replyDue, hst, ht]
  exact (countdown_due_iff c).mpr hpast

/-- Settles O42: by the retry limit of the link of the tag. -/
theorem replyExpiryResendsOrCompletes : Obligations.ReplyExpiryResendsOrCompletes := by
  intro s i c hrun hst ht hpast
  have hdue := replyDue_of_past hst ht hpast
  refine ⟨fun habove => ?_, fun hwithin => ?_⟩ <;>
    refine (unlessReset_of_running s _ hrun).trans (congrArg Host.Outcome.next ((if_pos hdue).trans ?_))
  · exact if_pos habove
  · exact if_neg (Nat.not_lt.mpr hwithin)

theorem exec_replayTimerExpiry_of_due {l : LinkId} (hrun : s.inReset = false)
    (hdue : timerDue (s.link l).pst.timer = true) : exec (.replayTimerExpiry l) s = .next (schedule (askPass
      (s.setLink l { s.link l with pst := { (s.link l).pst with timer := none } }) l) l) :=
  (unlessReset_of_running s _ hrun).trans (congrArg Host.Outcome.next (if_pos hdue))

/-- Settles O45: by the replay attempt limit. -/
theorem replayExpiryStartsAPass : Obligations.ReplayExpiryStartsAPass := by
  intro s l c hrun hup ht hpast
  have hexec := exec_replayTimerExpiry_of_due hrun (timerDue_of_past ht hpast)
  refine ⟨fun hwithin => ?_, fun habove => ?_⟩
  · rw [askPass_setLink_of_le] at hexec
    exacts [hexec, hwithin]
  · rw [schedule_askPass_of_lt] at hexec
    exacts [hexec, hup, habove]

theorem helloExpires_of_past {k : Link} {c : Countdown} (hst : k.ctl.state = .training)
    (ht : k.ctl.helloTimer = some c) (hpast : c.duration < c.elapsed) : k.helloExpires = true := by
  simp [Link.helloExpires, hst, timerDue_of_past ht hpast]

/-- Settles O46: by the training attempts. -/
theorem helloExpiryRepeatsOrFails : Obligations.HelloExpiryRepeatsOrFails := by
  intro s l c hrun hst ht hpast
  have hdue := helloExpires_of_past hst ht hpast
  refine ⟨fun hfew => ?_, fun hmany => ?_⟩ <;>
    refine (unlessReset_of_running s _ hrun).trans (congrArg Host.Outcome.next ((if_pos hdue).trans ?_))
  · exact if_pos hfew
  · exact if_neg (Nat.not_lt.mpr hmany)

end

end Sys2Proof.Proofs.Timers
end

section
/-! The statements on the ends of transmissions, on re-entry with the pick, and on completion (R18, R20, R31, R38, R43,
R49, R54, R63). -/

namespace Sys2Proof.Proofs.Transmissions

open Sys2Proof Sys2Proof.Machine Sys2Proof.Laws Sys2Proof.Proofs.LinkFits Sys2Proof.Proofs.Received

section

variable {s : State} {l : LinkId}

/-! ### The end of a first WR transmission (R54) -/

theorem endFirstWr_of_posted {seq : Seq} {p : Posted} {rest : List QEntry}
    (htxq : (s.link l).sch.txq = .posted p :: rest) :
    endFirstWr s l seq = schedule (s.setLink l ((s.link l).txFree.joinReplay seq p).headLeaves) l := by
  have hfree : ((s.onLink l Link.txFree).link l).sch.txq = .posted p :: rest := by
    rw [link_onLink_self]
    exact htxq
  simp only [endFirstWr, hfree, onLink_onLink]
  rfl

/-- Settles O48: the head that the end of the transmission takes to the replay list is a posted write. -/
theorem writeEndJoinsTheReplayList : Obligations.WriteEndJoinsTheReplayList := by
  intro s l seq st remote data held p rest hrun k htx htxq
  have hwrite : endWrite s l = endFirstWr s l seq := by
    rw [endWrite, htx]
  refine (unlessReset_of_running s _ hrun).trans (congrArg Host.Outcome.next (hwrite.trans ?_))
  rw [endFirstWr_of_posted htxq]
  simp only [Link.headLeaves, Link.joinReplay, Link.txFree, htxq, k]
  rfl

/-! ### The ends of the other transmissions (R43, R49, R63) -/

/-- A link whose transmitter has become free, with a posted-write state. -/
def freedWith (k : Link) (p : PostedState) : Link := { k with sch := { k.sch with tx := .idle }, pst := p }

theorem exec_endOfPassFrame (hrun : s.inReset = false) {f : TxFrame} (htx : (s.link l).sch.tx = .sending f .pass) :
    exec (.endOfPassFrame l) s =
      .next (schedule (endPassIfOver (s.setLink l (freedWith (s.link l) (s.link l).pst)) l) l) := by
  refine (unlessReset_of_running s _ hrun).trans (congrArg Host.Outcome.next ?_)
  rw [endPassSending, htx]
  rfl

theorem passOver_freedWith {k : Link} {p : PostedState} : (freedWith k p).passOver = true ↔ p.pass = .active none := by
  rw [passOver_iff]
  exact and_iff_left fun _ => Transmitter.noConfusion

/-- The end of the last frame of a pass is the end of the pass. -/
theorem endPassIfOver_freedWith (hover : (s.link l).pst.pass = .active none) :
    endPassIfOver (s.setLink l (freedWith (s.link l) (s.link l).pst)) l =
      endPass (s.setLink l (freedWith (s.link l) (s.link l).pst)) l := by
  refine if_pos ?_
  rw [link_setLink_self]
  exact passOver_freedWith.mpr hover

/-- Settles O49: by the frame on the line, and at the end of a pass by the list, the duplicates and the limit. -/
theorem otherEndsFreeTheTransmitter : Obligations.OtherEndsFreeTheTransmitter := by
  intro s l hrun
  have hlink (p : PostedState) : (s.setLink l (freedWith (s.link l) p)).link l = freedWith (s.link l) p :=
    link_setLink_self ..
  refine ⟨fun f htx => ?_, fun rest htx => ?_, fun f htx => ?_⟩
  · refine (unlessReset_of_running s _ hrun).trans (congrArg Host.Outcome.next ?_)
    rw [endControl, htx]
    rfl
  · refine (unlessReset_of_running s _ hrun).trans (congrArg Host.Outcome.next ?_)
    rw [endAbort, htx]
    rfl
  · have hexec := exec_endOfPassFrame hrun htx
    refine ⟨fun hmore => ?_, fun hover hnil => ?_, fun hover hsome hfew => ?_, fun hover hsome htwo hwithin => ?_,
      fun hup hover hsome htwo habove => ?_⟩
    · rw [hexec, endPassIfOver, hlink, if_neg (passOver_freedWith.not.mpr hmore)]
      rfl
    all_goals rw [hexec, endPassIfOver_freedWith hover]
    · rw [endPass_of_nil _ _ (by rw [hlink]; exact hnil), onLink_eq_setLink, hlink, setLink_setLink]
      rfl
    · rw [endPass_starts_timer _ _ (by rw [hlink]; exact hsome) (by rw [hlink]; exact Nat.ne_of_lt hfew),
        onLink_eq_setLink, hlink, setLink_setLink]
      rfl
    · rw [endPass_of_duplicates _ _ (by rw [hlink]; exact hsome) (by rw [hlink]; exact htwo), onLink_eq_setLink,
        hlink, setLink_setLink, askPass_setLink_of_le]
      exacts [rfl, hwithin]
    · rw [endPass_of_duplicates _ _ (by rw [hlink]; exact hsome) (by rw [hlink]; exact htwo), onLink_eq_setLink,
        hlink, setLink_setLink, schedule_askPass_of_lt]
      exacts [rfl, hup, habove]

/-! ### Re-entry and the pick (R18, R31, R38) -/

/-- Settles O51: the state before the pick is that of the re-entry. -/
theorem readyTagsTakeFreeSlots : Obligations.ReadyTagsTakeFreeSlots := by
  refine ⟨fun s i t l k f => ⟨rfl, rfl, rfl, rfl, rfl⟩, fun s l => ⟨refill s l, refill_frame s l, refill_tag s l,
    fun m hm => (refill_link s l m).trans (if_neg hm.symm), (refill_link s l l).trans (if_pos rfl), rfl⟩⟩

/-! ### Completion (R20) -/

/-- The mark of a frame whose tag is taken out of the queue (R12, R33). -/
theorem dropTag_tx_of_held {k : Link} {f : TxFrame} {i : TagId} (htx : k.sch.tx = .sending f (.queueHead true))
    (hhead : k.sch.txq.head? = some (.ref i)) : (k.dropTag i).sch.tx = .sending f (.queueHead false) := by
  simp [Link.dropTag, htx, hhead]

theorem dropTag_tx_of_not_held {k : Link} {i : TagId}
    (h : (∀ f, k.sch.tx ≠ .sending f (.queueHead true)) ∨ k.sch.txq.head? ≠ some (.ref i)) :
    (k.dropTag i).sch.tx = k.sch.tx := by
  simp only [Link.dropTag]
  split
  next f held htx =>
    rw [htx]
    cases held with
    | false => rfl
    | true =>
      obtain hnot | hhead := h
      · exact absurd htx (hnot f)
      · simp [hhead]
  next => rfl

/-- Settles O52: the tag, the record and the link of a completion, each by the rule of `completeTag`. -/
theorem completionAppendsOneRecord : Obligations.CompletionAppendsOneRecord := by
  intro s i result tag k t k'
  have hlink : k' = k.dropTag i := (completeTag_link s i result tag.link).trans (if_pos rfl)
  refine ⟨rfl, (completeTag_tag s i i result).trans (if_pos rfl),
    fun j hj => (completeTag_tag s i j result).trans (if_neg hj.symm), rfl,
    fun m hm => (completeTag_link s i result m).trans (if_neg hm.symm), ?_, ?_, ?_⟩ <;> rw [hlink]
  · rfl
  · exact fun f => dropTag_tx_of_held
  · exact dropTag_tx_of_not_held

end

end Sys2Proof.Proofs.Transmissions
end

section
/-! The statements on the decode of an address and on the issue commands (R88, R97 to R103). -/

namespace Sys2Proof.Proofs.HostIssues

open Sys2Proof Sys2Proof.Machine Sys2Proof.Laws

section

variable {s : State}

/-! ### The lowest of a finite range -/

theorem find?_finRange_eq_some {n : Nat} {p : Fin n → Bool} {k : Fin n} (hk : p k = true)
    (hlow : ∀ j, j < k → p j = false) : (List.finRange n).find? p = some k := by
  rw [← Fin.find?_eq_find?_finRange]
  exact Fin.find?_eq_some_iff.mpr ⟨hk, hlow⟩

theorem find?_finRange_eq_none {n : Nat} {p : Fin n → Bool} (h : ∀ k, p k = false) :
    (List.finRange n).find? p = none := by
  rw [← Fin.find?_eq_find?_finRange]
  exact Fin.find?_eq_none_iff.mpr h

/-- Settles O22: the directed windows are searched from the lowest number, and WS after them. -/
theorem decodeTakesTheLowestWindow : Obligations.DecodeTakesTheLowestWindow := by
  refine fun s a => ⟨fun k hk hlow => ?_, fun hnone => ?_⟩
  · rw [decode, find?_finRange_eq_some hk hlow]
  · rw [decode, find?_finRange_eq_none hnone]
    exact ⟨fun h => if_pos h, fun h => if_neg (Bool.eq_false_iff.mp h)⟩

/-! ### Free tags and the tags in use (R3) -/

theorem lowestFree_of_lowest {i : TagId} (hi : (s.tag i).state = .free) (hlow : ∀ j, j < i → (s.tag j).state ≠ .free) :
    lowestFree s = some i :=
  find?_finRange_eq_some (decide_eq_true hi) fun j hj => decide_eq_false (hlow j hj)

theorem lowestFree_of_none (h : ∀ i : TagId, (s.tag i).state ≠ .free) : lowestFree s = none :=
  find?_finRange_eq_none fun i => decide_eq_false (h i)

theorem tagsInUse_setTag (s : State) (i : TagId) (t : Tag) : tagsInUse (s.setTag i t) =
    (tagsInUse s - if decide ((s.tag i).state ≠ .free) = true then 1 else 0) +
      if decide (t.state ≠ .free) = true then 1 else 0 := by
  simp only [tagsInUse, Vector.countP_toList]
  exact Vector.countP_set i.isLt

theorem tagsInUse_pos {i : TagId} (h : (s.tag i).state ≠ .free) : 0 < tagsInUse s :=
  List.countP_pos_iff.mpr ⟨s.tag i, by simp [State.tag], decide_eq_true h⟩

theorem tagsInUse_take {i : TagId} {t : Tag} (hfree : (s.tag i).state = .free) (ht : t.state ≠ .free) :
    tagsInUse (s.setTag i t) = tagsInUse s + 1 := by
  simp [tagsInUse_setTag, hfree, ht]

theorem tagsInUse_free {i : TagId} {t : Tag} (hused : (s.tag i).state ≠ .free) (ht : t.state = .free) :
    tagsInUse (s.setTag i t) + 1 = tagsInUse s := by
  have hpos := tagsInUse_pos hused
  simp only [tagsInUse_setTag, hused, ht, ne_eq, not_true_eq_false, not_false_eq_true, decide_true, decide_false,
    if_true, if_false, Bool.false_eq_true]
  omega

/-! ### The checks after the decode (R97, R98) -/

section

variable {kind : IssueKind} {t : Target}

theorem issueRefusal_of_protected (hkind : kind ≠ .read) (hacc : t.access = .readOnly) :
    issueRefusal s kind t = some .protectedTarget := if_pos ⟨hkind, hacc⟩

/-- Past the access check, the link check is next. -/
theorem issueRefusal_of_access (hacc : t.access = .readWrite ∨ kind = .read) : issueRefusal s kind t =
    if (s.link t.link).ctl.state ≠ .up then some .linkNotUp
    else if (s.link t.link).freeSlots ≤ (s.link t.link).sch.ready.length then some .queueFull
    else if kind ≠ .write ∧ lowestFree s = none then some .noTag
    else none :=
  if_neg fun ⟨hkind, hro⟩ => hacc.elim (fun h => Access.noConfusion (h.symm.trans hro)) hkind

theorem issueRefusal_of_down (hacc : t.access = .readWrite ∨ kind = .read)
    (hdown : (s.link t.link).ctl.state ≠ .up) : issueRefusal s kind t = some .linkNotUp :=
  (issueRefusal_of_access hacc).trans (if_pos hdown)

/-- Past the link check, the queue check is next. -/
theorem issueRefusal_of_up (hacc : t.access = .readWrite ∨ kind = .read) (hup : (s.link t.link).ctl.state = .up) :
    issueRefusal s kind t =
      if (s.link t.link).freeSlots ≤ (s.link t.link).sch.ready.length then some .queueFull
      else if kind ≠ .write ∧ lowestFree s = none then some .noTag
      else none :=
  (issueRefusal_of_access hacc).trans (if_neg (not_not_intro hup))

theorem issueRefusal_of_full (hacc : t.access = .readWrite ∨ kind = .read) (hup : (s.link t.link).ctl.state = .up)
    (hfull : (s.link t.link).freeSlots ≤ (s.link t.link).sch.ready.length) :
    issueRefusal s kind t = some .queueFull :=
  (issueRefusal_of_up hacc hup).trans (if_pos hfull)

theorem issueRefusal_of_no_tag (hacc : t.access = .readWrite ∨ kind = .read) (hup : (s.link t.link).ctl.state = .up)
    (hroom : ¬(s.link t.link).freeSlots ≤ (s.link t.link).sch.ready.length) (hkind : kind ≠ .write)
    (htags : lowestFree s = none) : issueRefusal s kind t = some .noTag :=
  (issueRefusal_of_up hacc hup).trans ((if_neg hroom).trans (if_pos ⟨hkind, htags⟩))

theorem issueRefusal_of_accepted (hacc : t.access = .readWrite ∨ kind = .read)
    (hup : (s.link t.link).ctl.state = .up)
    (hroom : ¬(s.link t.link).freeSlots ≤ (s.link t.link).sch.ready.length)
    (htag : kind = .write ∨ lowestFree s ≠ none) : issueRefusal s kind t = none :=
  (issueRefusal_of_up hacc hup).trans ((if_neg hroom).trans (if_neg fun h => htag.elim h.1 fun hsome => hsome h.2))

/-! ### An attempt by its decode and its checks -/

/-- The command of an issue kind (R97). -/
def issueCommand : IssueKind → Instr
  | .write => .issueWrite
  | .writeConfirmed => .issueWriteConfirmed
  | .read => .issueRead

theorem exec_issueCommand (hrun : s.inReset = false) (kind : IssueKind) :
    exec (issueCommand kind) s = .next (issue s kind) := by
  cases kind <;> exact unlessReset_of_running s _ hrun

theorem issue_of_miss (h : decode s (s.raddrH ++ s.raddrL) = none) :
    issue s kind = report s .noTarget none none := by
  simp only [issue, requestAddr, h]

theorem issue_of_refusal {o : IssueOutcome} (hdecode : decode s (s.raddrH ++ s.raddrL) = some t)
    (h : issueRefusal s kind t = some o) : issue s kind = report s o (some t) none := by
  simp only [issue, requestAddr, hdecode, h]

theorem issue_of_accepted (hdecode : decode s (s.raddrH ++ s.raddrL) = some t) (h : issueRefusal s kind t = none) :
    issue s kind = acceptIssue s kind t := by
  simp only [issue, requestAddr, hdecode, h]

theorem stream_of_miss {data : Word} (h : decode s s.streamAddr = none) :
    stream s data = refuseStream s .noTarget none := by
  simp only [stream, h]

theorem stream_of_refusal {data : Word} {o : IssueOutcome} (hdecode : decode s s.streamAddr = some t)
    (h : issueRefusal s .write t = some o) : stream s data = refuseStream s o (some t) := by
  simp only [stream, hdecode, h]

theorem stream_of_accepted {data : Word} (hdecode : decode s s.streamAddr = some t)
    (h : issueRefusal s .write t = none) :
    stream s data = { acceptPosted s t s.streamAddr data with streamAddr := s.streamAddr + 1 } := by
  simp only [stream, hdecode, h]

end

/-- Settles O23: the checks pass, so ISSUE and STREAM_DATA accept the posted write. -/
theorem postedIssueIsQueued : Obligations.PostedIssueIsQueued := by
  intro s target data hrun hacc hup hroom
  have hpass : issueRefusal s .write target = none :=
    issueRefusal_of_accepted (.inl hacc) hup (Nat.not_le.mpr hroom) (.inl rfl)
  refine ⟨fun hdecode => ?_, fun hdecode => ?_⟩
  · rw [show Instr.issueWrite = issueCommand .write from rfl, exec_issueCommand hrun, issue_of_accepted hdecode hpass]
    rfl
  · refine (unlessReset_of_running s _ hrun).trans (congrArg Host.Outcome.next ?_)
    rw [stream_of_accepted hdecode hpass]
    rfl

/-! ### Tagged requests (R3, R99) -/

/-- The issue kind of a non-posted request. -/
def ofRequest : ReqKind → IssueKind
  | .read => .read
  | .writeConfirmed => .writeConfirmed

theorem issueCommand_ofRequest (kind : ReqKind) :
    issueCommand (ofRequest kind) = if kind = .read then .issueRead else .issueWriteConfirmed := by
  cases kind <;> rfl

theorem acceptIssue_ofRequest {i : TagId} (hfree : lowestFree s = some i) (kind : ReqKind) (t : Target) :
    acceptIssue s (ofRequest kind) t = acceptTagged s kind t (requestAddr s) i := by
  cases kind <;> simp only [ofRequest, acceptIssue, hfree]

theorem allocated_eq (t : Tag) (kind : ReqKind) (target : Target) (addr : Addr) (data : Word) :
    t.allocated kind target addr data =
      { state := .queued, gen := t.gen + 1, kind := kind, link := target.link, station := target.station,
        hostAddr := addr, remoteAddr := target.remoteAddr, writeData := if kind = .read then none else some data,
        attempts := 0, timeouts := 0, busy := 0, timer := .stopped, result := none } := by
  cases kind <;> rfl

/-- Settles O24: with a slot in the queue the ready-deferred list is empty, so no other tag moves. -/
theorem taggedIssueTakesTheLowestTag : Obligations.TaggedIssueTakesTheLowestTag := by
  intro s target kind i hrun hacc hup hslots hfits hdecode hfree hlow command tag
  have hready : (s.link target.link).sch.ready = [] := by
    by_contra hne
    exact absurd (hfits.2 hne) (Nat.ne_of_lt hslots)
  have hlowest := lowestFree_of_lowest hfree hlow
  have hpass : issueRefusal s (ofRequest kind) target = none := by
    refine issueRefusal_of_accepted ?_ hup ?_ (.inr (by rw [hlowest]; simp))
    · cases kind with
      | read => exact .inr rfl
      | writeConfirmed => exact .inl (hacc rfl)
    · rw [hready]
      exact Nat.not_le.mpr (Nat.sub_pos_of_lt hslots)
  have htag : (s.tag i).allocated kind target (requestAddr s) s.wdata = tag := allocated_eq ..
  have hready' (r : IssueResult) : ((({ s with issueResult := r }.setTag i tag).onLink target.link
      fun k => { k with sch := { k.sch with txq := k.sch.txq ++ [QEntry.ref i] } }).link target.link).sch.ready =
        [] := by
    rw [link_onLink_self]
    exact hready
  refine ⟨_, ?_, rfl, ?_, fun j hj => ?_, ?_⟩
  · show exec (if kind = .read then .issueRead else .issueWriteConfirmed) s = _
    rw [← issueCommand_ofRequest, exec_issueCommand hrun, issue_of_accepted hdecode hpass,
      acceptIssue_ofRequest hlowest, acceptTagged, htag]
    rfl
  · rw [schedule_of_ready_nil _ _ (hready' _), tag_setLink, tag_onLink, tag_setTag_self]
  · rw [schedule_of_ready_nil _ _ (hready' _), tag_setLink, tag_onLink, tag_setTag_of_ne _ _ hj]
    rfl
  · rw [schedule_of_ready_nil _ _ (hready' _)]
    exact tagsInUse_take (s := { s with issueResult := _ }) hfree TagState.noConfusion

/-! ### Refusals (R97, R98, R103) -/

theorem exec_badKind (hrun : s.inReset = false) {v : Word} (h1 : v ≠ 1) (h2 : v ≠ 2) (h3 : v ≠ 3) :
    exec (.badKind v) s = .next (report s .badKind none none) := by
  refine (unlessReset_of_running s _ hrun).trans (congrArg Host.Outcome.next ?_)
  rw [issueCode, if_neg h1, if_neg h2, if_neg h3]

theorem exists_kind_of_issue {c : Instr} (hc : c ∈ [Instr.issueWrite, .issueWriteConfirmed, .issueRead]) :
    ∃ kind, c = issueCommand kind ∧ (c ≠ .issueRead → kind ≠ .read) ∧ (c = .issueRead → kind = .read) ∧
      (c ≠ .issueWrite → kind ≠ .write) := by
  simp only [List.mem_cons, List.not_mem_nil, or_false] at hc
  obtain rfl | rfl | rfl := hc
  · exact ⟨.write, rfl, by simp, by simp, by simp⟩
  · exact ⟨.writeConfirmed, rfl, by simp, by simp, by simp⟩
  · exact ⟨.read, rfl, by simp, by simp, by simp⟩

/-- Settles O25: the kind, the decode, and then each check past those before it. -/
theorem issueIsRefusedInOrder : Obligations.IssueIsRefusedInOrder := by
  intro s hrun
  refine ⟨fun v h1 h2 h3 => exec_badKind hrun h1 h2 h3, fun c hc => ?_, fun data => ?_⟩
  · obtain ⟨kind, rfl, hother, hread, hwrite⟩ := exists_kind_of_issue hc
    refine ⟨fun hmiss => ?_, fun t hdecode => ⟨fun hacc hne => ?_, fun hacc hdown => ?_, fun hacc hup hfull => ?_,
      fun hacc hup hroom hne hnone => ?_⟩⟩ <;> rw [exec_issueCommand hrun]
    · rw [issue_of_miss hmiss]
      rfl
    · rw [issue_of_refusal hdecode (issueRefusal_of_protected (hother hne) hacc)]
      rfl
    · rw [issue_of_refusal hdecode (issueRefusal_of_down (hacc.imp_right hread) hdown)]
      rfl
    · rw [issue_of_refusal hdecode (issueRefusal_of_full (hacc.imp_right hread) hup hfull)]
      rfl
    · rw [issue_of_refusal hdecode (issueRefusal_of_no_tag (hacc.imp_right hread) hup hroom (hwrite hne)
        (lowestFree_of_none hnone))]
      rfl
  · have hexec : exec (.streamData data) s = .next (stream s data) := unlessReset_of_running s _ hrun
    refine ⟨fun hmiss => ?_, fun t hdecode => ⟨fun hacc => ?_, fun hacc hdown => ?_, fun hacc hup hfull => ?_⟩⟩ <;>
      rw [hexec]
    · rw [stream_of_miss hmiss]
      rfl
    · rw [stream_of_refusal hdecode (issueRefusal_of_protected (by simp) hacc)]
      rfl
    · rw [stream_of_refusal hdecode (issueRefusal_of_down (.inl hacc) hdown)]
      rfl
    · rw [stream_of_refusal hdecode (issueRefusal_of_full (.inl hacc) hup hfull)]
      rfl

end

end Sys2Proof.Proofs.HostIssues
end

section
/-! The statements on the two queues of the host and on the asks for pause frames (R22, R76, R113, R118 to R120). -/

namespace Sys2Proof.Proofs.HostQueues

open Sys2Proof Sys2Proof.Machine Sys2Proof.Laws Sys2Proof.Proofs.HostIssues

section

variable {s : State}

/-! ### CQ_POP (R22, R76) -/

theorem popCompletion_of_nil (h : s.cq = []) : popCompletion s = s := by
  simp only [popCompletion, h]

theorem popCompletion_of_cons {r : CplRecord} {rest : List CplRecord} (h : s.cq = r :: rest) :
    popCompletion s = { s with cq := rest }.setTag r.index (s.tag r.index).freed := by
  simp only [popCompletion, h]
  rfl

/-- Settles O26: the tag of the head record is COMPLETE where records and tags agree, so it leaves the tags in use. -/
theorem cqPopFreesTheTag : Obligations.CqPopFreesTheTag := by
  intro s v hrun
  have hexec : exec (.cqPop v) s = .next (popCompletion s) := unlessReset_of_running s _ hrun
  refine ⟨fun hnil => by rw [hexec, popCompletion_of_nil hnil], fun r rest hcq => ?_⟩
  refine ⟨_, hexec, by rw [popCompletion_of_cons hcq]; rfl, fun hagree => ?_⟩
  have hcomplete : (s.tag r.index).state = .complete := (hagree.1 r (by rw [hcq]; exact List.mem_cons_self)).1
  rw [popCompletion_of_cons hcq]
  exact tagsInUse_free (s := { s with cq := rest }) (i := r.index)
    (fun h => TagState.noConfusion (hcomplete.symm.trans h)) rfl

/-! ### EQ_POP (R113, R118) -/

theorem popEvent_of_nil (h : s.eq = []) : popEvent s = s := by
  simp only [popEvent, h]

theorem popEvent_of_cons {r : EvtRecord} {rest : List EvtRecord} (h : s.eq = r :: rest) : popEvent s =
    schedule ({ s with eq := rest }.setLink r.link ((s.link r.link).eventPopped s.lowThreshold)) r.link := by
  simp only [popEvent, h]
  rfl

theorem eventPopped_of_held {k : Link} {low : Nat}
    (h : ¬(k.ctl.state = .up ∧ k.evs.paused = true ∧ k.evs.count - 1 ≤ low)) :
    k.eventPopped low = { k with evs := { k.evs with count := k.evs.count - 1 } } := if_neg h

theorem eventPopped_of_released {k : Link} {low : Nat}
    (h : k.ctl.state = .up ∧ k.evs.paused = true ∧ k.evs.count - 1 ≤ low) :
    k.eventPopped low = Link.release { k with evs := { k.evs with count := k.evs.count - 1 } } := if_pos h

/-- Settles O27: by the release test on the link of the head record. -/
theorem eqPopReleasesTheLink : Obligations.EqPopReleasesTheLink := by
  intro s v hrun
  have hexec : exec (.eqPop v) s = .next (popEvent s) := unlessReset_of_running s _ hrun
  refine ⟨fun hnil => by rw [hexec, popEvent_of_nil hnil], fun r rest heq =>
    ⟨fun hheld => ?_, fun hup hpaused hlow => ?_⟩⟩
  · rw [hexec, popEvent_of_cons heq, eventPopped_of_held hheld]
  · rw [hexec, popEvent_of_cons heq, eventPopped_of_released ⟨hup, hpaused, hlow⟩]
    rfl

/-! ### The asks for pause frames (R119, R120) -/

theorem resumeOutcome_of_pause {last : PauseSlot} (h : last ≠ .pause) : resumeOutcome .pause last = .none := by
  cases last with
  | pause => exact absurd rfl h
  | none | resume => rfl

theorem resumeOutcome_of_none {last : PauseSlot} (h : last ≠ .pause) : resumeOutcome .none last = .none := by
  cases last with
  | pause => exact absurd rfl h
  | none | resume => rfl

/-- Settles O28: the rows of the two tables, by what is pending and what the stations last saw. -/
theorem pauseAsksFollowTheTables : Obligations.PauseAsksFollowTheTables := by
  intro k
  refine ⟨rfl, rfl, rfl, fun hp hl => ?_, fun hp hl => ?_, fun hp hl => ?_, fun hp hl => ?_, fun hp hl => ?_⟩ <;>
    simp only [Link.askResume, hp]
  · exact resumeOutcome_of_pause hl
  · rw [hl, resumeOutcome]
  · rw [hl, resumeOutcome]
  · exact resumeOutcome_of_none hl
  · rw [hl, resumeOutcome]

end

end Sys2Proof.Proofs.HostQueues
end

section
/-! The statements on link commands, on the flush and on failure (R23, R122, R145 to R148, R154, R155, R157, R158). -/

namespace Sys2Proof.Proofs.LinkCommands

open Sys2Proof Sys2Proof.Machine Sys2Proof.Laws Sys2Proof.Proofs.LinkStates Sys2Proof.Proofs.LinkScheduling
  Sys2Proof.Proofs.Received

section

variable {s : State} {l : LinkId}

/-! ### The flush (R23, R157, R158) -/

theorem inFlight_iff_mem {t : Tag} :
    t.inFlight = true ↔ t.state ∈ [TagState.queued, .await, .resend, .deferred, .ready] := by
  unfold Tag.inFlight
  cases t.state <;> simp

/-- The posted write of a queue entry. -/
def postedOf : QEntry → Option Posted
  | .posted p => some p
  | .ref _ => none

theorem queuedAddrs_eq (txq : List QEntry) : queuedAddrs txq = (txq.filterMap postedOf).map (·.hostAddr) := by
  induction txq with
  | nil => rfl
  | cons e rest ih =>
    cases e with
    | ref i => exact ih
    | posted p => exact congrArg (p.hostAddr :: ·) ih

/-- The posted writes that a flush discards, in order of first transmission. -/
def discards (k : Link) : List Posted := k.pst.replay.map (·.write) ++ k.sch.txq.filterMap postedOf

theorem discardAddrs_eq (k : Link) : k.discardAddrs = (discards k).map (·.hostAddr) := by
  rw [Link.discardAddrs, discards, List.map_append, List.map_map, queuedAddrs_eq]
  rfl

theorem countDiscards_eq (c : LinkControl) (addrs : List Addr) : c.countDiscards addrs = { c with
    discards := min 255 (c.discards + addrs.length)
    firstDiscard := if c.firstDiscard = none then addrs.head? else c.firstDiscard } := by
  rw [LinkControl.countDiscards]
  cases hfirst : c.firstDiscard <;> rfl

theorem flushed_eq (n : Nat) (l : LinkId) (keep : Bool) (k : Link) : k.flushed n l keep = { k with
    ctl := { k.ctl with
      discards := min 255 (k.ctl.discards + (discards k).length)
      firstDiscard := if k.ctl.firstDiscard = none then (discards k).head?.map (·.hostAddr)
        else k.ctl.firstDiscard }
    sch := { k.sch with
      tx := abortTx n l k.sch.tx, txq := [], resend := [], ready := [], pendingPause := .none, lastPause := .none
      helloAckPending := keep && k.sch.helloAckPending, outPause := false, holdTimer := none }
    pst := .clear } := by
  rw [Link.flushed, countDiscards_eq, discardAddrs_eq, List.length_map, List.head?_map]

theorem mem_flushTags_iff {i : TagId} : i ∈ flushTags s l ↔
    (s.tag i).link = l ∧ (s.tag i).state ∈ [TagState.queued, .await, .resend, .deferred, .ready] := by
  rw [← inFlight_iff_mem]
  simp [flushTags]

theorem flush_tag_of_mem (status : Status) (keep : Bool) {i : TagId} (h : (s.tag i).link = l ∧
    (s.tag i).state ∈ [TagState.queued, .await, .resend, .deferred, .ready]) :
    (flush s l status keep).tag i = (s.tag i).completed (plainResult status) :=
  (flush_tag s l status keep i).trans (if_pos (h.imp_right inFlight_iff_mem.mpr))

theorem flush_tag_of_not_mem (status : Status) (keep : Bool) {i : TagId} (h : ¬((s.tag i).link = l ∧
    (s.tag i).state ∈ [TagState.queued, .await, .resend, .deferred, .ready])) :
    (flush s l status keep).tag i = s.tag i :=
  (flush_tag s l status keep i).trans (if_neg fun hin => h (hin.imp_right inFlight_iff_mem.mp))

theorem flush_link_self (s : State) (l : LinkId) (status : Status) (keep : Bool) :
    (flush s l status keep).link l = (s.link l).flushed s.freeCount l keep :=
  (flush_link s l l status keep).trans (if_pos rfl)

/-- Settles O38: the records are those of `flushTags`, which lists the tags of the link in ascending order. -/
theorem flushEmptiesTheLink : Obligations.FlushEmptiesTheLink := by
  intro s l status keep t k inFlight writes
  refine ⟨flush_frame s l status keep, fun i hi => flush_tag_of_mem status keep hi,
    fun i hi => flush_tag_of_not_mem status keep hi,
    ⟨flushTags s l, (List.pairwise_lt_finRange 32).filter _, fun i => mem_flushTags_iff, ?_⟩,
    fun m hm => (flush_link s l m status keep).trans (if_neg hm.symm),
    ⟨abortTx s.freeCount l k.sch.tx, abortTx_abortedTo .., ?_⟩⟩
  · refine congrArg (s.cq ++ ·) (List.map_congr_left fun i hi => ?_)
    obtain ⟨hlink, -⟩ := mem_flushTags_iff.mp hi
    rw [← hlink]
    rfl
  · exact (flush_link_self s l status keep).trans (flushed_eq s.freeCount l keep k)

/-! ### Failure (R154, R155) -/

/-- A link in UP goes down through the flush: beside it only the HELLO items and the inbound pause are cleared. -/
theorem takeDown_eq_of_up (status : Status) (hup : (s.link l).ctl.state = .up) : takeDown s l status =
    (flush s l status false).setLink l { (flush s l status false).link l with
      ctl := { ((flush s l status false).link l).ctl with helloTimer := none }
      sch := { ((flush s l status false).link l).sch with helloDue := false }
      evs := { (s.link l).evs with paused := false, pauseRepeat := 0 } } := by
  rw [takeDown_of_up s l status hup, onLink_eq_setLink]
  simp only [flush_link_self]
  rfl

/-- Settles O39: from UP through the flush, from TRAINING through the abort. -/
theorem failureBringsTheLinkDown : Obligations.FailureBringsTheLinkDown := by
  intro s l cause k changed
  refine ⟨fun hup => ?_, fun htraining => ⟨abortTx s.freeCount l k.sch.tx, abortTx_abortedTo .., ?_⟩⟩
  · rw [failLink_eq, takeDown_eq_of_up .linkDown hup, onLink_eq_setLink, link_setLink_self, setLink_setLink]
    simp only [changed, ← linkChangeBit_eq]
    rfl
  · have hdown : (s.link l).ctl.state ≠ .up := fun h => LinkState.noConfusion (htraining.symm.trans h)
    rw [failLink_eq, takeDown_of_not_up s l .linkDown hdown, onLink_onLink]
    simp only [changed, ← linkChangeBit_eq]
    rfl

/-! ### STOP (R146 to R148) -/

theorem commandStop_of_taken (h : (s.link s.linkSelect).ctl.state ≠ .off) :
    commandStop s = stopLink (reportCommand s .taken .stop) s.linkSelect := by
  unfold commandStop
  split
  next hoff => exact absurd hoff h
  all_goals rfl

/-- Settles O37: from UP through the flush, from TRAINING and FAILED through the abort. -/
theorem stopTakesTheLinkOff : Obligations.StopTakesTheLinkOff := by
  intro s hrun l k reported
  have hexec : exec .stop s = .next (commandStop s) := unlessReset_of_running s _ hrun
  refine ⟨fun hup => ?_, fun hdown => ⟨abortTx s.freeCount l k.sch.tx, abortTx_abortedTo .., ?_⟩⟩
  · rw [hexec, commandStop_of_taken (by rw [hup]; simp), stopLink_eq,
      takeDown_eq_of_up (s := reportCommand s .taken .stop) .linkStopped hup, onLink_eq_setLink, link_setLink_self,
      setLink_setLink]
    simp only [reported, ← linkChangeBit_eq, flush_link_self]
    rfl
  · have hnot : k.ctl.state ≠ .up := by
      obtain h | h := hdown <;> rw [h] <;> simp
    rw [hexec, commandStop_of_taken (by obtain h | h := hdown <;> rw [h] <;> simp), stopLink_eq,
      takeDown_of_not_up (reportCommand s .taken .stop) _ _ hnot, onLink_onLink]
    simp only [reported, ← linkChangeBit_eq]
    rfl

/-! ### START and the commands that only report (R144 to R146) -/

theorem commandStart_of_taken (h : (s.link s.linkSelect).ctl.state = .off ∨ (s.link s.linkSelect).ctl.state = .failed) :
    commandStart s = startLink (reportCommand s .taken .start) s.linkSelect := by
  obtain h | h := h <;> simp only [commandStart, h]

theorem commandStart_of_ignored
    (h : (s.link s.linkSelect).ctl.state = .training ∨ (s.link s.linkSelect).ctl.state = .up) :
    commandStart s = reportCommand s .ignored .start := by
  obtain h | h := h <;> simp only [commandStart, h]

/-- The pick of a link in TRAINING with a HELLO due (R42). -/
theorem pick_of_helloDue {tags : Vector Tag 32} {k : Link} (hst : k.ctl.state = .training)
    (hdue : k.sch.helloDue = true) : pick tags k = { k with sch := if k.sch.tx = .idle
      then { k.sch with helloDue := false, tx := .sending .hello .control } else k.sch } := by
  by_cases hidle : k.sch.tx = .idle
  · rw [pick_of_training hidle hst, pickTraining, if_pos hdue, if_pos hidle]
  · rw [pick_of_busy hidle, if_neg hidle]

/-- The taken START with an empty ready-deferred list: the link is in training, and the event ends with its pick. -/
theorem startLink_of_ready_nil (h : (s.link l).sch.ready = []) : startLink s l =
    { s with sticky := s.sticky ||| linkChangeBit l }.setLink l (pick s.tags
      { (s.link l).started with ctl := { (s.link l).started.ctl with state := .training } }) := by
  rw [startLink_eq, schedule_of_ready_nil _ _ (by rw [link_raiseBit, link_onLink_self]; exact h), link_raiseBit,
    link_onLink_self, onLink_eq_setLink]
  exact setLink_setLink { s with sticky := s.sticky ||| linkChangeBit l } l _ _

/-- Settles O36: START where it is taken ends with the pick of the HELLO; the other commands only report. -/
theorem startBeginsTraining : Obligations.StartBeginsTraining := by
  intro s hrun l k report
  have hexec : exec .start s = .next (commandStart s) := unlessReset_of_running s _ hrun
  refine ⟨fun hst hready => ?_, fun hst => ?_, fun hst => ?_, fun v h1 h2 => ?_⟩
  · have hstarted := startLink_of_ready_nil (s := reportCommand s .taken .start) (l := l) hready
    rw [hexec, commandStart_of_taken hst, hstarted, pick_of_helloDue rfl rfl, linkChangeBit_eq]
    rfl
  · rw [hexec, commandStart_of_ignored hst]
    rfl
  · refine (unlessReset_of_running s _ hrun).trans (congrArg Host.Outcome.next ?_)
    simp only [commandStop, show (s.link s.linkSelect).ctl.state = .off from hst]
    rfl
  · refine (unlessReset_of_running s _ hrun).trans (congrArg Host.Outcome.next ?_)
    rw [commandCode, if_neg h1, if_neg h2]
    rfl

end

end Sys2Proof.Proofs.LinkCommands
end

section
/-! Words made of fields (R75, R95, R112, R164, R178): a word with numbers placed at bit positions, the lowest field
last, has the sum of the placed numbers as its value where each field stays below the one before it. -/

namespace Sys2Proof.Proofs.RegisterReads

open Sys2Proof Sys2Proof.Machine Sys2Proof.Laws Sys2Proof.Proofs.Received Sys2Proof.Proofs.AddressDecode

/-! ### Fields placed in a word -/

/-- The word of a list of fields, each a number and its bit position. -/
def packed : List (Nat × Nat) → Word
  | [] => 0#16
  | (n, lo) :: rest => placed n lo ||| packed rest

/-- The sum of the placed numbers of a list of fields. -/
def fieldSum : List (Nat × Nat) → Nat
  | [] => 0
  | (n, lo) :: rest => n * 2 ^ lo + fieldSum rest

/-- Each field of the list lies below the position of the one before it, and the first below the top. -/
def FitsBelow : Nat → List (Nat × Nat) → Prop
  | _, [] => True
  | top, (n, lo) :: rest => n * 2 ^ lo + 2 ^ lo ≤ 2 ^ top ∧ FitsBelow lo rest

theorem placed_toNat {n lo : Nat} (h : n * 2 ^ lo < 65536) : (placed n lo).toNat = n * 2 ^ lo := by
  rw [placed, BitVec.toNat_ofNat, Nat.shiftLeft_eq]
  exact Nat.mod_eq_of_lt h

theorem packed_toNat_lt {top : Nat} {fields : List (Nat × Nat)} (htop : top ≤ 16) (h : FitsBelow top fields) :
    (packed fields).toNat = fieldSum fields ∧ (packed fields).toNat < 2 ^ top := by
  induction fields generalizing top with
  | nil => exact ⟨rfl, Nat.two_pow_pos top⟩
  | cons f rest ih =>
    obtain ⟨n, lo⟩ := f
    obtain ⟨hfit, hrest⟩ := h
    have hpow : 2 ^ top ≤ 65536 := Nat.pow_le_pow_right (n := 2) (by decide) htop
    have hpos : 0 < 2 ^ lo := Nat.two_pow_pos lo
    have hlo : lo ≤ 16 := by
      have : 2 ^ lo ≤ 2 ^ 16 := by omega
      exact (Nat.pow_le_pow_iff_right (by decide)).mp this
    obtain ⟨hsum, hlt⟩ := ih hlo hrest
    have hor : (packed ((n, lo) :: rest)).toNat = n * 2 ^ lo + (packed rest).toNat := by
      rw [packed, BitVec.toNat_or, placed_toNat (by omega), ← Nat.shiftLeft_eq, ← Nat.shiftLeft_add_eq_or_of_lt hlt]
    refine ⟨?_, by omega⟩
    rw [hor, hsum, fieldSum]

/-- The value of a word of fields. -/
theorem packed_toNat {fields : List (Nat × Nat)} (h : FitsBelow 16 fields) :
    (packed fields).toNat = fieldSum fields := (packed_toNat_lt le_rfl h).1

theorem flagAt_eq (b : Bool) (lo : Nat) : flagAt b lo = placed b.toNat lo := by
  cases b
  · simp [flagAt, placed]
  · rfl

theorem addrHigh_eq (a : Addr) : addrHigh a = placed (a.toNat / 65536) 0 := by
  apply BitVec.eq_of_toNat_eq
  have := a.isLt
  rw [placed_toNat (by omega), addrHigh, BitVec.toNat_setWidth, BitVec.extractLsb'_toNat, Nat.shiftRight_eq_div_pow]
  omega

theorem addrHigh_toNat (a : Addr) : (addrHigh a).toNat = a.toNat / 65536 := by
  have := a.isLt
  rw [addrHigh_eq, placed_toNat (by omega)]
  omega

theorem addrLow_toNat (a : Addr) : (addrLow a).toNat = a.toNat % 65536 := by
  rw [addrLow, BitVec.extractLsb'_toNat]
  rfl

theorem placed_zero_eq (n : Nat) : placed n 0 = BitVec.ofNat 16 n := by
  rw [placed, Nat.shiftLeft_zero]

theorem placed_zero_toNat {n : Nat} (h : n < 65536) : (placed n 0).toNat = n := by
  rw [placed_toNat (by omega)]
  omega

/-! ### The words of the registers as fields -/

theorem tagWord_eq (r : CplRecord) :
    r.tagWord = packed [(r.status.code, 8), (r.kind.code, 7), (r.gen.toNat, 5), (r.index.val, 0)] := by
  simp only [CplRecord.tagWord, packed, BitVec.or_assoc, BitVec.or_zero]

theorem cplAddrHighWord_eq (r : CplRecord) :
    r.addrHighWord = packed [(r.link.val, 11), (r.station.val, 8), (r.hostAddr.toNat / 65536, 0)] := by
  simp only [CplRecord.addrHighWord, packed, addrHigh_eq, BitVec.or_assoc, BitVec.or_zero]

theorem remoteHighWord_eq (r : CplRecord) :
    r.remoteHighWord = packed [((r.faultCode.getD 0).toNat, 8), (r.remoteAddr.toNat / 65536, 0)] := by
  simp only [CplRecord.remoteHighWord, packed, addrHigh_eq, BitVec.or_zero]

theorem countsWord_eq (r : CplRecord) : r.countsWord = packed [(r.busy, 8), (r.attempts, 0)] := by
  simp only [CplRecord.countsWord, packed, BitVec.or_zero]

theorem srcWord_eq (r : EvtRecord) :
    r.srcWord = packed [(1, 15), (r.link.val, 11), (r.station.val, 8), (r.lostBefore, 0)] := by
  simp only [EvtRecord.srcWord, packed, BitVec.or_assoc, BitVec.or_zero]

/-- ISSUE_RESULT; its two absent fields read 0, and an absent window 15. -/
theorem issueResult_word_eq (r : IssueResult) : r.word = packed [(r.outcome.code, 13), (r.window.elim 15 (·.val), 9),
    (r.link.elim 0 (·.val), 7), (r.tag.elim 0 (·.2.toNat), 5), (r.tag.elim 0 (·.1.val), 0)] := by
  have habsent (lo : Nat) : placed 0 lo = 0 := by simp [placed]
  obtain ⟨outcome, window, link, tag⟩ := r
  simp only [IssueResult.word, packed, BitVec.or_zero, BitVec.or_assoc]
  cases window <;> cases link <;> cases tag <;> simp [habsent]

theorem cmdResult_word_eq (r : CmdResult) :
    r.word = packed [(r.link.val, 8), (r.command.code, 4), (r.outcome.code, 0)] := by
  simp only [CmdResult.word, packed, BitVec.or_zero]
  ac_rfl

theorem statusWord_eq (k : Link) : k.statusWord = packed [(k.ctl.trainAttempts, 8),
    (k.ctl.firstDiscard.isSome.toNat, 7), ((decide (k.pst.pass ≠ .none)).toNat, 6), (k.evs.paused.toNat, 5),
    (k.sch.outPause.toNat, 4), (k.ctl.cause.code, 2), (k.ctl.state.code, 0)] := by
  simp only [Link.statusWord, packed, flagAt_eq, BitVec.or_zero]
  ac_rfl

theorem occWord_eq (k : Link) :
    k.occWord = packed [(k.evs.count, 9), (k.pst.replay.length, 5), (k.queueOcc, 0)] := by
  simp only [Link.occWord, packed, BitVec.or_assoc, BitVec.or_zero]

theorem statAWord_eq (k : Link) : k.statAWord = packed [(k.ctl.discards, 8), (k.ctl.stale, 0)] := by
  simp only [Link.statAWord, packed, BitVec.or_zero]

theorem limitsWord_eq (c : LinkConfig) :
    c.limitsWord = packed [(c.busyLimit, 8), (c.replayLimit, 4), (c.retryLimit, 0)] := by
  simp only [LinkConfig.limitsWord, packed, BitVec.or_assoc, BitVec.or_zero]

theorem dirCtrlWord_eq (w : DirWindow) : w.ctrlWord = packed [(w.enable.toNat, 15),
    ((decide (w.access = .readOnly)).toNat, 14), (w.exp, 8), (w.link.val, 4), (w.station.val, 0)] := by
  simp only [DirWindow.ctrlWord, packed, flagAt_eq, BitVec.or_assoc, BitVec.or_zero]

theorem stripedCtrlWord_eq (w : StripedWindow) :
    w.ctrlWord = packed [(w.enable.toNat, 15), (w.exp, 8), (w.shift, 0)] := by
  simp only [StripedWindow.ctrlWord, packed, flagAt_eq, BitVec.or_assoc, BitVec.or_zero]

end Sys2Proof.Proofs.RegisterReads
end

section
/-! The statements on what the registers read as (R75, R93, R95, R112, R164, R175, R178). -/

namespace Sys2Proof.Proofs.RegisterReads

open Sys2Proof Sys2Proof.Machine Sys2Proof.Laws Sys2Proof.Proofs.Received Sys2Proof.Proofs.AddressDecode

/-! ### The ranges of the codes -/

theorem status_code_le (c : Status) : c.code ≤ 7 := by cases c <;> decide

theorem reqKind_code_le (c : ReqKind) : c.code ≤ 1 := by cases c <;> decide

theorem issueOutcome_code_le (c : IssueOutcome) : c.code ≤ 7 := by cases c <;> decide

theorem cmdOutcome_code_le (c : CmdOutcome) : c.code ≤ 3 := by cases c <;> decide

theorem cmdCode_code_le (c : CmdCode) : c.code ≤ 2 := by cases c <;> decide

theorem linkState_code_le (c : LinkState) : c.code ≤ 3 := by cases c <;> decide

theorem failCause_code_le (c : FailCause) : c.code ≤ 3 := by cases c <;> decide

/-! ### The values of the words -/

theorem tagWord_toNat (r : CplRecord) : r.tagWord.toNat =
    256 * r.status.code + 128 * r.kind.code + 32 * r.gen.toNat + r.index.val := by
  have hstatus := status_code_le r.status
  have hkind := reqKind_code_le r.kind
  have hgen := r.gen.isLt
  have hindex := r.index.isLt
  rw [tagWord_eq, packed_toNat (by simp only [FitsBelow, and_true]; omega)]
  simp only [fieldSum]
  omega

theorem cplAddrHighWord_toNat (r : CplRecord) : r.addrHighWord.toNat =
    2048 * r.link.val + 256 * r.station.val + r.hostAddr.toNat / 65536 := by
  have hlink := r.link.isLt
  have hstation := r.station.isLt
  have haddr := r.hostAddr.isLt
  rw [cplAddrHighWord_eq, packed_toNat (by simp only [FitsBelow, and_true]; omega)]
  simp only [fieldSum]
  omega

theorem remoteHighWord_toNat (r : CplRecord) :
    r.remoteHighWord.toNat = 256 * (r.faultCode.getD 0).toNat + r.remoteAddr.toNat / 65536 := by
  have hcode := (r.faultCode.getD 0).isLt
  have haddr := r.remoteAddr.isLt
  rw [remoteHighWord_eq, packed_toNat (by simp only [FitsBelow, and_true]; omega)]
  simp only [fieldSum]
  omega

theorem countsWord_toNat {r : CplRecord} (hattempts : r.attempts ≤ 255) (hbusy : r.busy ≤ 255) :
    r.countsWord.toNat = 256 * r.busy + r.attempts := by
  rw [countsWord_eq, packed_toNat (by simp only [FitsBelow, and_true]; omega)]
  simp only [fieldSum]
  omega

theorem srcWord_toNat {r : EvtRecord} (hlost : r.lostBefore ≤ 255) :
    r.srcWord.toNat = 32768 + 2048 * r.link.val + 256 * r.station.val + r.lostBefore := by
  have hlink := r.link.isLt
  have hstation := r.station.isLt
  rw [srcWord_eq, packed_toNat (by simp only [FitsBelow, and_true]; omega)]
  simp only [fieldSum]
  omega

theorem issueResult_word_toNat (r : IssueResult) : r.word.toNat =
    8192 * r.outcome.code + 512 * (r.window.elim 15 (·.val)) + 128 * (r.link.elim 0 (·.val)) +
      r.tag.elim 0 (fun t => 32 * t.2.toNat + t.1.val) := by
  have houtcome := issueOutcome_code_le r.outcome
  have hwindow : r.window.elim 15 (·.val) ≤ 15 := by
    cases r.window with
    | none => exact le_rfl
    | some w => exact Nat.le_trans (Nat.le_of_lt w.isLt) (by decide)
  have hlink : r.link.elim 0 (·.val) ≤ 3 := by
    cases r.link with
    | none => exact Nat.zero_le _
    | some l => exact Nat.le_of_lt_succ l.isLt
  have hgen : r.tag.elim 0 (·.2.toNat) ≤ 3 := by
    cases r.tag with
    | none => exact Nat.zero_le _
    | some t => exact Nat.le_of_lt_succ t.2.isLt
  have hindex : r.tag.elim 0 (·.1.val) ≤ 31 := by
    cases r.tag with
    | none => exact Nat.zero_le _
    | some t => exact Nat.le_of_lt_succ t.1.isLt
  have htag : r.tag.elim 0 (fun t => 32 * t.2.toNat + t.1.val) =
      32 * r.tag.elim 0 (·.2.toNat) + r.tag.elim 0 (·.1.val) := by
    cases r.tag <;> rfl
  rw [issueResult_word_eq, packed_toNat (by simp only [FitsBelow, and_true]; omega), htag]
  simp only [fieldSum]
  omega

theorem cmdResult_word_toNat (r : CmdResult) :
    r.word.toNat = r.outcome.code + 16 * r.command.code + 256 * r.link.val := by
  have houtcome := cmdOutcome_code_le r.outcome
  have hcode := cmdCode_code_le r.command
  have hlink := r.link.isLt
  rw [cmdResult_word_eq, packed_toNat (by simp only [FitsBelow, and_true]; omega)]
  simp only [fieldSum]
  omega

theorem statusWord_toNat {k : Link} (hattempts : k.ctl.trainAttempts ≤ 31) : k.statusWord.toNat =
    k.ctl.state.code + 4 * k.ctl.cause.code + 16 * k.sch.outPause.toNat + 32 * k.evs.paused.toNat +
      64 * (if k.pst.pass = .none then 0 else 1) + 128 * k.ctl.firstDiscard.isSome.toNat +
      256 * k.ctl.trainAttempts := by
  have hstate := linkState_code_le k.ctl.state
  have hcause := failCause_code_le k.ctl.cause
  have hout := Bool.toNat_le k.sch.outPause
  have hpaused := Bool.toNat_le k.evs.paused
  have hpass : (decide (k.pst.pass ≠ .none)).toNat = if k.pst.pass = .none then 0 else 1 := by
    by_cases h : k.pst.pass = .none <;> simp [h]
  have hpass' := Bool.toNat_le (decide (k.pst.pass ≠ .none))
  have hdiscard := Bool.toNat_le k.ctl.firstDiscard.isSome
  rw [statusWord_eq, packed_toNat (by simp only [FitsBelow, and_true]; omega),
    ← hpass]
  simp only [fieldSum]
  omega

theorem occWord_toNat {k : Link} (hcount : k.evs.count ≤ 64) (hreplay : k.pst.replay.length ≤ 8)
    (htxq : k.sch.txq.length ≤ 16) : k.occWord.toNat = 512 * k.evs.count + 32 * k.pst.replay.length +
      (if k.sch.ready = [] then k.sch.txq.length else min 31 (16 + k.sch.ready.length)) := by
  have hocc : k.queueOcc ≤ 31 := by
    rw [Link.queueOcc]
    split <;> omega
  rw [occWord_eq, packed_toNat (by simp only [FitsBelow, and_true]; omega), ← Link.queueOcc]
  simp only [fieldSum]
  omega

theorem statAWord_toNat {k : Link} (hdiscards : k.ctl.discards ≤ 255) (hstale : k.ctl.stale ≤ 255) :
    k.statAWord.toNat = 256 * k.ctl.discards + k.ctl.stale := by
  rw [statAWord_eq, packed_toNat (by simp only [FitsBelow, and_true]; omega)]
  simp only [fieldSum]
  omega

theorem limitsWord_toNat {c : LinkConfig} (hbusy : c.busyLimit ≤ 255) (hreplay : c.replayLimit ≤ 15)
    (hretry : c.retryLimit ≤ 7) : c.limitsWord.toNat = 256 * c.busyLimit + 16 * c.replayLimit + c.retryLimit := by
  rw [limitsWord_eq, packed_toNat (by simp only [FitsBelow, and_true]; omega)]
  simp only [fieldSum]
  omega

theorem dirCtrlWord_toNat {w : DirWindow} (hexp : w.exp ≤ 24) : w.ctrlWord.toNat = 32768 * w.enable.toNat +
    16384 * (if w.access = .readOnly then 1 else 0) + 256 * w.exp + 16 * w.link.val + w.station.val := by
  have henable := Bool.toNat_le w.enable
  have haccess : (decide (w.access = .readOnly)).toNat = if w.access = .readOnly then 1 else 0 := by
    by_cases h : w.access = .readOnly <;> simp [h]
  have haccess' := Bool.toNat_le (decide (w.access = .readOnly))
  have hlink := w.link.isLt
  have hstation := w.station.isLt
  rw [dirCtrlWord_eq, packed_toNat (by simp only [FitsBelow, and_true]; omega), ← haccess]
  simp only [fieldSum]
  omega

theorem stripedCtrlWord_toNat {w : StripedWindow} (hexp : w.exp ≤ 24) (hshift : w.shift ≤ 19) :
    w.ctrlWord.toNat = 32768 * w.enable.toNat + 256 * w.exp + w.shift := by
  have henable := Bool.toNat_le w.enable
  rw [stripedCtrlWord_eq, packed_toNat (by simp only [FitsBelow, and_true]; omega)]
  simp only [fieldSum]
  omega

/-! ### The tags in use -/

theorem tagsInUse_eq (s : State) :
    tagsInUse s = (List.finRange 32).countP fun i => decide ((s.tag i).state ≠ .free) := by
  have htags : s.tags.toList = (List.finRange 32).map s.tag := by
    apply List.ext_getElem <;> simp [State.tag]
  rw [tagsInUse, htags, List.countP_map]
  rfl

theorem tagsInUse_le (s : State) : tagsInUse s ≤ 32 :=
  Nat.le_trans List.countP_le_length (Nat.le_of_eq s.tags.size_toArray)

/-- Settles O29: each register by the value of its word. -/
theorem headsReportsAndStatusRead : Obligations.HeadsReportsAndStatusRead := by
  intro s k
  refine ⟨⟨placed_zero_eq _, fun hcq => ?_, fun r rest hcq hattempts hbusy => ?_⟩,
    ⟨placed_zero_eq _, fun heq => ?_, fun r rest heq hlost => ?_⟩, issueResult_word_toNat _,
    placed_zero_toNat (Nat.lt_of_le_of_lt (tagsInUse_le s) (by decide)), tagsInUse_eq s, cmdResult_word_toNat _,
    statusWord_toNat, occWord_toNat, statAWord_toNat, fun hbad => placed_zero_toNat (Nat.lt_succ_of_le hbad),
    addrHigh_toNat _, addrLow_toNat _, ?_⟩
  · have hread (f : CplRecord → Word) : headWord s.cq f = 0 := by rw [hcq, headWord]
    simp only [List.forall_mem_cons, List.not_mem_nil, false_imp_iff, implies_true, and_true]
    exact ⟨hread _, hread _, hread _, hread _, hread _, hread _, hread _⟩
  · have hread (f : CplRecord → Word) : headWord s.cq f = f r := by rw [hcq, headWord]
    refine ⟨(congrArg BitVec.toNat (hread _)).trans (tagWord_toNat r),
      (congrArg BitVec.toNat (hread _)).trans (cplAddrHighWord_toNat r),
      (congrArg BitVec.toNat (hread _)).trans (addrLow_toNat r.hostAddr),
      (congrArg BitVec.toNat (hread _)).trans (remoteHighWord_toNat r),
      (congrArg BitVec.toNat (hread _)).trans (addrLow_toNat r.remoteAddr), hread _,
      (congrArg BitVec.toNat (hread _)).trans (countsWord_toNat hattempts hbusy)⟩
  · have hread (f : EvtRecord → Word) : headWord s.eq f = 0 := by rw [heq, headWord]
    simp only [List.forall_mem_cons, List.not_mem_nil, false_imp_iff, implies_true, and_true]
    exact ⟨hread _, hread _, hread _, hread _⟩
  · have hread (f : EvtRecord → Word) : headWord s.eq f = f r := by rw [heq, headWord]
    refine ⟨(congrArg BitVec.toNat (hread _)).trans (srcWord_toNat hlost),
      (congrArg BitVec.toNat (hread _)).trans ?_, hread _, hread _⟩
    exact BitVec.toNat_setWidth_of_le (by decide)
  · simp only [List.forall_mem_cons, List.not_mem_nil, false_imp_iff, implies_true, and_true]
    exact ⟨rfl, rfl, rfl, rfl, rfl, rfl, rfl, rfl, rfl, rfl, rfl, rfl, rfl, rfl, rfl, rfl⟩

/-! ### Windows and configuration (R91 to R93, R178) -/

theorem flagAt_getLsbD (b : Bool) {lo : Nat} (hlo : lo < 16) (n : Nat) :
    (flagAt b lo).getLsbD n = (b && decide (n = lo)) := by
  cases b with
  | false => simp [flagAt]
  | true =>
    rw [flagAt, if_pos rfl, placed, BitVec.getLsbD_ofNat, Nat.one_shiftLeft, Nat.testBit_two_pow, Bool.true_and]
    by_cases h : n = lo
    · simp [h, hlo]
    · simp [h, Ne.symm h]

/-- A bit of the flags of a list put together is set where one of them has it. -/
theorem foldl_or_getLsbD {α : Type} (f : α → Word) (xs : List α) (w : Word) (n : Nat) :
    (xs.foldl (fun w x => w ||| f x) w).getLsbD n = (w.getLsbD n || xs.any fun x => (f x).getLsbD n) := by
  induction xs generalizing w with
  | nil => simp
  | cons x xs ih => rw [List.foldl_cons, ih, BitVec.getLsbD_or, List.any_cons, Bool.or_assoc]

theorem winStatus_getLsbD (s : State) (n : Nat) : (winStatus s).getLsbD n =
    ((s.striped.invalid && decide (n = 15)) || (s.striped.enable && decide (n = 8)) ||
      (List.finRange 8).any fun k => s.windows[k].enable && decide (n = k.val)) := by
  rw [winStatus, BitVec.getLsbD_or, BitVec.getLsbD_or, flagAt_getLsbD _ (by decide), flagAt_getLsbD _ (by decide),
    foldl_or_getLsbD, show BitVec.getLsbD (0 : Word) n = false from BitVec.getLsbD_zero, Bool.false_or]
  refine congrArg (_ || ·) (congrArg (List.any _) (funext fun k => flagAt_getLsbD _ (by omega) n))

theorem any_window_iff (s : State) (n : Nat) :
    ((List.finRange 8).any fun j => s.windows[j].enable && decide (n = j.val)) = true ↔
      ∃ j : Fin 8, s.windows[j].enable = true ∧ n = j.val := by
  simp [List.any_eq_true]

theorem winStatus_directed (s : State) (k : Fin 8) : (winStatus s).getLsbD k.val = s.windows[k].enable := by
  have hany : ((List.finRange 8).any fun j => s.windows[j].enable && decide (k.val = j.val)) =
      s.windows[k].enable := by
    rw [Bool.eq_iff_iff, any_window_iff]
    refine ⟨fun ⟨j, henable, hj⟩ => ?_, fun henable => ⟨k, henable, rfl⟩⟩
    rw [Fin.ext hj]
    exact henable
  have h8 := k.isLt
  rw [winStatus_getLsbD, hany, decide_eq_false (by omega : ¬k.val = 15), decide_eq_false (by omega : ¬k.val = 8),
    Bool.and_false, Bool.and_false, Bool.or_false, Bool.false_or]

/-- Above the directed windows only the enable of WS and STRIPE_INVALID are shown. -/
theorem winStatus_above (s : State) {n : Nat} (h : 8 ≤ n) : (winStatus s).getLsbD n =
    ((s.striped.invalid && decide (n = 15)) || (s.striped.enable && decide (n = 8))) := by
  have hany : ((List.finRange 8).any fun j => s.windows[j].enable && decide (n = j.val)) = false := by
    rw [Bool.eq_false_iff, Ne, any_window_iff]
    rintro ⟨j, -, hj⟩
    omega
  rw [winStatus_getLsbD, hany, Bool.or_false]

theorem directedIndex_of_lt {n : Fin 9} {k : Fin 8} (h : n.val = k.val) : directedIndex n = some k := by
  have hlt : n.val < 8 := h ▸ k.isLt
  rw [directedIndex, dif_pos hlt]
  exact congrArg some (Fin.ext h)

/-- Settles O30: WIN_STATUS bit by bit, the window that is selected, and each other register by its value. -/
theorem configurationReads : Obligations.ConfigurationReads := by
  intro s c
  refine ⟨⟨fun k => ?_, ?_, fun n hlow hhigh => ?_, ?_⟩, fun k hk => ?_, fun hws => ?_,
    ⟨rfl, rfl, ?_, rfl, rfl, placed_zero_toNat (by omega), placed_zero_toNat (by omega)⟩, ?_,
    fun hhigh hlow => ?_, limitsWord_toNat⟩
  · exact winStatus_directed s k
  · exact (winStatus_above s le_rfl).trans (by simp)
  · refine (winStatus_above s (by omega)).trans ?_
    rw [decide_eq_false (by omega : ¬n = 15), decide_eq_false (by omega : ¬n = 8), Bool.and_false, Bool.and_false,
      Bool.or_false]
  · rw [show (registerRead s 0x30).getLsbD 15 = s.striped.invalid from
      (winStatus_above s (by omega)).trans (by simp)]
    exact decide_eq_true_iff
  · have hindex := directedIndex_of_lt hk
    refine ⟨fun hexp => ?_, ?_, ?_, ?_, ?_⟩
    · show (winCtrlWord s).toNat = _
      rw [winCtrlWord, hindex]
      exact dirCtrlWord_toNat hexp
    · show (addrHigh (selectedBase s)).toNat = _
      rw [selectedBase, hindex, addrHigh_toNat]
    · show (addrLow (selectedBase s)).toNat = _
      rw [selectedBase, hindex, addrLow_toNat]
    · show (addrHigh (selectedRemap s)).toNat = _
      rw [selectedRemap, hindex, addrHigh_toNat]
    · show (addrLow (selectedRemap s)).toNat = _
      rw [selectedRemap, hindex, addrLow_toNat]
  · have hindex : directedIndex s.winSelect = none := by rw [hws]; rfl
    have hremap : selectedRemap s = 0 := by rw [selectedRemap, hindex]
    refine ⟨fun hexp hshift => ?_, ?_, ?_, ?_, ?_⟩
    · show (winCtrlWord s).toNat = _
      rw [winCtrlWord, hindex]
      exact stripedCtrlWord_toNat hexp hshift
    · show (addrHigh (selectedBase s)).toNat = _
      rw [selectedBase, hindex, addrHigh_toNat]
    · show (addrLow (selectedBase s)).toNat = _
      rw [selectedBase, hindex, addrLow_toNat]
    · show addrHigh (selectedRemap s) = _
      rw [hremap]
      decide
    · show addrLow (selectedRemap s) = _
      rw [hremap]
      decide
  · exact BitVec.toNat_setWidth_of_le (by decide)
  · simp only [List.forall_mem_cons, List.not_mem_nil, false_imp_iff, implies_true, and_true]
    exact ⟨placed_zero_eq _, placed_zero_eq _, placed_zero_eq _, placed_zero_eq _, placed_zero_eq _,
      placed_zero_eq _, placed_zero_eq _, placed_zero_eq _, placed_zero_eq _, placed_zero_eq _⟩
  · have hword : registerRead s 0x28 = packed [(s.highThreshold, 8), (s.lowThreshold, 0)] := by
      simp only [packed, BitVec.or_zero]
      rfl
    rw [hword, packed_toNat (by simp only [FitsBelow, and_true]; omega)]
    simp only [fieldSum]
    omega

end Sys2Proof.Proofs.RegisterReads
end

section
/-! The statements on INT_STATUS, INT_ENABLE and the INT_N pin (R81, R115, R168 to R172, R180). -/

namespace Sys2Proof.Proofs.Interrupts

open Sys2Proof Sys2Proof.Machine Sys2Proof.Laws Sys2Proof.Proofs.RegisterReads

section

variable {s : State}

/-! ### Words within a mask -/

theorem masked_iff {x m : Word} : x &&& ~~~m = 0 ↔ ∀ n, x.getLsbD n = true → m.getLsbD n = true := by
  constructor
  · intro h n hx
    have hn : n < 16 := BitVec.lt_of_getLsbD hx
    have hbit := congrArg (BitVec.getLsbD · n) h
    simp only [BitVec.getLsbD_and, BitVec.getLsbD_not, hn, decide_true, Bool.true_and, hx] at hbit
    simpa using hbit
  · intro h
    refine BitVec.eq_of_getLsbD_eq fun n hn => ?_
    rw [BitVec.getLsbD_and, BitVec.getLsbD_not, decide_eq_true hn, Bool.true_and]
    cases hx : x.getLsbD n with
    | false => exact (BitVec.getLsbD_zero).symm
    | true => rw [h n hx]; exact (BitVec.getLsbD_zero).symm

theorem enableMask_iff (n : Nat) : enableMask.getLsbD n = true ↔ n ∈ [0, 1, 2, 3, 8, 9, 12, 13, 14] := by
  by_cases hn : n < 16
  · have hall : ∀ k : Fin 16, enableMask.getLsbD k.val = true ↔ k.val ∈ [0, 1, 2, 3, 8, 9, 12, 13, 14] := by decide
    exact hall ⟨n, hn⟩
  · rw [BitVec.getLsbD_of_ge _ _ (Nat.not_lt.mp hn)]
    simp only [Bool.false_eq_true, List.mem_cons, List.not_mem_nil, or_false, false_iff]
    omega

/-- No sticky bit is set at another position than its seven (R168). -/
theorem sticky_clear (h : s.sticky &&& ~~~0x700F = 0) {n : Nat} (hn : (0x700F : Word).getLsbD n = false) :
    s.sticky.getLsbD n = false := by
  by_contra hset
  have hmask := masked_iff.mp h n (Bool.not_eq_false _ ▸ hset)
  rw [hn] at hmask
  exact Bool.noConfusion hmask

/-! ### INT_STATUS and the pin (R81, R115, R168, R172) -/

theorem intStatus_getLsbD (s : State) (n : Nat) : (intStatus s).getLsbD n =
    (s.sticky.getLsbD n || (cqCondition s && decide (n = 8)) || (eqCondition s && decide (n = 9))) := by
  rw [← flagAt_getLsbD (cqCondition s) (by decide), ← flagAt_getLsbD (eqCondition s) (by decide), ← BitVec.getLsbD_or,
    ← BitVec.getLsbD_or]
  rfl

theorem intStatus_cq (h : s.sticky &&& ~~~0x700F = 0) : (intStatus s).getLsbD 8 = cqCondition s := by
  rw [intStatus_getLsbD, sticky_clear h (by decide)]
  simp

theorem intStatus_eq (h : s.sticky &&& ~~~0x700F = 0) : (intStatus s).getLsbD 9 = eqCondition s := by
  rw [intStatus_getLsbD, sticky_clear h (by decide)]
  simp

theorem cqCondition_iff : cqCondition s = true ↔ ∃ r rest, s.cq = r :: rest ∧
    (s.cqTrigger ≤ s.cq.length ∨ s.cqAge ≠ 0 ∧ s.cqAge ≤ r.age.count) := by
  cases h : s.cq with
  | nil => simp [cqCondition, h]
  | cons r rest => simp [cqCondition, cqAged, h]

theorem eqCondition_iff : eqCondition s = true ↔ ∃ r rest, s.eq = r :: rest ∧
    (s.eqTrigger ≤ s.eq.length ∨ s.eqAge ≠ 0 ∧ s.eqAge ≤ r.age.count) := by
  cases h : s.eq with
  | nil => simp [eqCondition, h]
  | cons r rest => simp [eqCondition, eqAged, h]

theorem intAsserted_iff : intAsserted s = true ↔
    ∃ n, n < 16 ∧ (intStatus s).getLsbD n = true ∧ s.intEnable.getLsbD n = true := by
  rw [intAsserted, decide_eq_true_eq]
  constructor
  · intro hne
    by_contra hnone
    refine hne (BitVec.eq_of_getLsbD_eq fun n hn => ?_)
    rw [show BitVec.getLsbD (0 : Word) n = false from BitVec.getLsbD_zero, BitVec.getLsbD_and, Bool.and_eq_false_iff]
    by_contra hboth
    rw [not_or, Bool.not_eq_false, Bool.not_eq_false] at hboth
    exact hnone ⟨n, hn, hboth.1, hboth.2⟩
  · rintro ⟨n, -, hstatus, henable⟩ hzero
    have hbit := congrArg (BitVec.getLsbD · n) hzero
    simp [hstatus, henable] at hbit

/-- Settles O34: the bits of INT_STATUS, and the pin by the enabled ones. -/
theorem intStatusAndPinShowTheConditions : Obligations.IntStatusAndPinShowTheConditions := by
  refine ⟨fun s => ⟨rfl, fun hreset => ?_⟩, fun s hsticky => ⟨fun n hn => ?_, fun n hn => ?_, ?_, ?_⟩, fun s hrun => ?_⟩
  · rw [State.intN, hreset, Bool.true_or]
  · have h8 : n ≠ 8 := by rintro rfl; simp at hn
    have h9 : n ≠ 9 := by rintro rfl; simp at hn
    rw [intStatus_getLsbD, decide_eq_false h8, decide_eq_false h9, Bool.and_false, Bool.and_false, Bool.or_false,
      Bool.or_false]
  · have hclear : (0x700F : Word).getLsbD n = false ∧ n ≠ 8 ∧ n ≠ 9 := by
      revert n
      decide
    rw [intStatus_getLsbD, sticky_clear hsticky hclear.1, decide_eq_false hclear.2.1, decide_eq_false hclear.2.2,
      Bool.and_false, Bool.and_false, Bool.or_false, Bool.or_false]
  · rw [intStatus_cq hsticky, cqCondition_iff]
  · rw [intStatus_eq hsticky, eqCondition_iff]
  · rw [← intAsserted_iff, State.intN, hrun, Bool.false_or, Bool.not_eq_false']

/-! ### Writes to the two registers (R170, R171) -/

theorem clearSticky_getLsbD (x v : Word) (n : Nat) : (x &&& ~~~v).getLsbD n = (x.getLsbD n && !v.getLsbD n) := by
  rw [BitVec.getLsbD_and, BitVec.getLsbD_not]
  by_cases hn : n < 16
  · rw [decide_eq_true hn, Bool.true_and]
  · rw [BitVec.getLsbD_of_ge x n (Nat.not_lt.mp hn), Bool.false_and, Bool.false_and]

theorem clearSticky_masked {x m : Word} (v : Word) (h : x &&& ~~~m = 0) : x &&& ~~~v &&& ~~~m = 0 := by
  refine masked_iff.mpr fun n hn => masked_iff.mp h n ?_
  rw [clearSticky_getLsbD] at hn
  exact (Bool.and_eq_true_iff.mp hn).1

theorem ifInRange_of_ok {ok : Bool} {t : State} (h : ok = true) : ifInRange ok s t = t := if_pos h

theorem ifInRange_of_bad {ok : Bool} {t : State} (h : ¬ok = true) :
    ifInRange ok s t = { s with sticky := s.sticky ||| 0x2000 } := if_neg h

/-- Settles O35: the sticky bits that stay, and INT_ENABLE by its nine positions. -/
theorem interruptRegisterWrites : Obligations.InterruptRegisterWrites := by
  intro s v hrun
  have henable : exec (.intEnableWrite v) s = .next (setIntEnable s v) := unlessReset_of_running s _ hrun
  refine ⟨⟨clearSticky s v, unlessReset_of_running s _ hrun, rfl, clearSticky_getLsbD s.sticky v, rfl, rfl,
    fun hsticky => ⟨?_, ?_⟩⟩, fun hlegal => ?_, fun n hn hbad => ?_⟩
  · rw [intStatus_cq (s := clearSticky s v) (clearSticky_masked v hsticky), intStatus_cq hsticky]
    rfl
  · rw [intStatus_eq (s := clearSticky s v) (clearSticky_masked v hsticky), intStatus_eq hsticky]
    rfl
  · rw [henable, setIntEnable, ifInRange_of_ok]
    exact decide_eq_true (masked_iff.mpr fun n hn => (enableMask_iff n).mpr (hlegal n hn))
  · rw [henable, setIntEnable, ifInRange_of_bad]
    exact fun hok => hbad ((enableMask_iff n).mp (masked_iff.mp (of_decide_eq_true hok) n hn))

end

end Sys2Proof.Proofs.Interrupts
end

section
/-! The statements on writes to the configuration and staging registers (R8, R78, R79, R90 to R92, R96, R114, R117,
R123, R143, R177 to R179): each range as the values whose fields lie in it. -/

namespace Sys2Proof.Proofs.RegisterWrites

open Sys2Proof Sys2Proof.Machine Sys2Proof.Laws Sys2Proof.Proofs.Inversion Sys2Proof.Proofs.Received
  Sys2Proof.Proofs.RegisterReads Sys2Proof.Proofs.Interrupts

section

variable {s : State} {v : Word}

/-! ### Fields of a written value -/

theorem field_eq (v : Word) (lo width : Nat) : field v lo width = v.toNat / 2 ^ lo % 2 ^ width := by
  rw [field, Nat.shiftRight_eq_div_pow]

theorem toNat_getLsbD (v : Word) (n : Nat) : (v.getLsbD n).toNat = v.toNat / 2 ^ n % 2 := Nat.toNat_testBit ..

theorem bool_eq_of_toNat {a b : Bool} (h : a.toNat = b.toNat) : a = b := by
  revert a b
  decide

theorem exec_configWrite (hrun : s.inReset = false) (offset : Offset) (v : Word) :
    exec (.configWrite offset v) s = .next (registerWrite s offset v) := unlessReset_of_running s _ hrun

/-- A write whose range is a condition on the value. -/
theorem ifInRange_eq_ite {ok : Bool} {p : Prop} [Decidable p] (h : ok = true ↔ p) (t : State) :
    ifInRange ok s t = if p then t else { s with sticky := s.sticky ||| 0x2000 } := by
  by_cases hp : p
  · rw [ifInRange_of_ok (h.mpr hp), if_pos hp]
  · rw [ifInRange_of_bad (h.not.mpr hp), if_neg hp]

theorem inBounds_iff {lo hi n : Nat} : (decide (lo ≤ n) && decide (n ≤ hi)) = true ↔ lo ≤ n ∧ n ≤ hi := by
  rw [Bool.and_eq_true, decide_eq_true_eq, decide_eq_true_eq]

/-! ### EQ_THRESH and EQ_REPEAT (R117, R123) -/

theorem thresholdsInRange_iff : thresholdsInRange v = true ↔
    1 ≤ field v 8 6 ∧ field v 0 6 < field v 8 6 ∧ field v 14 2 = 0 ∧ field v 6 2 = 0 := by
  simp [thresholdsInRange, and_assoc]

theorem thresholds_of_value {high low : Nat} (h1 : 1 ≤ high) (h63 : high ≤ 63) (hlow : low < high)
    (hv : v.toNat = 256 * high + low) :
    thresholdsInRange v = true ∧ field v 8 6 = high ∧ field v 0 6 = low := by
  have hhigh : field v 8 6 = high := by rw [field_eq]; omega
  have hlow' : field v 0 6 = low := by rw [field_eq]; omega
  refine ⟨thresholdsInRange_iff.mpr ?_, hhigh, hlow'⟩
  rw [hhigh, hlow', field_eq, field_eq]
  omega

theorem value_of_thresholds (h : thresholdsInRange v = true) : 1 ≤ field v 8 6 ∧ field v 8 6 ≤ 63 ∧
    field v 0 6 < field v 8 6 ∧ v.toNat = 256 * field v 8 6 + field v 0 6 := by
  simp only [thresholdsInRange_iff, field_eq] at h ⊢
  have hv := v.isLt
  omega

theorem repeatInRange_iff_mem : repeatInRange v = true ↔ v.toNat ∈ [1, 2, 4, 8] := by
  rw [repeatInRange_iff]
  simp

/-! ### WIN_SELECT and LINK_SELECT (R90, R143) -/

theorem setWinSelect_of_lt {w : Fin 9} (h : v.toNat = w.val) : setWinSelect s v = { s with winSelect := w } := by
  have hlt : v.toNat < 9 := h ▸ w.isLt
  rw [setWinSelect, dif_pos hlt, show (⟨v.toNat, hlt⟩ : Fin 9) = w from Fin.ext h]

theorem setLinkSelect_of_lt {l : LinkId} (h : v.toNat = l.val) : setLinkSelect s v = { s with linkSelect := l } := by
  have hlt : v.toNat < 4 := h ▸ l.isLt
  rw [setLinkSelect, dif_pos hlt, show (⟨v.toNat, hlt⟩ : Fin 4) = l from Fin.ext h]

/-- Settles O31: each register by the range of its value. -/
theorem sharedRegistersTakeValuesInRange : Obligations.SharedRegistersTakeValuesInRange := by
  intro s v hrun
  refine ⟨?_, unlessReset_of_running s _ hrun, exec_configWrite hrun 0x06 v, ?_, ?_, ?_, ?_,
    fun high low h1 h63 hlow hv => ?_, fun hbad => ?_, fun hv => ?_, fun hv => ?_, fun w hw => ?_, fun hw => ?_,
    fun l hl => ?_, fun hl => ?_⟩
  · rw [← extractLsb'_zero v 8]
    exact unlessReset_of_running s _ hrun
  · exact (unlessReset_of_running s _ hrun).trans (congrArg Host.Outcome.next (ifInRange_eq_ite inBounds_iff _))
  · exact (unlessReset_of_running s _ hrun).trans (congrArg Host.Outcome.next (ifInRange_eq_ite decide_eq_true_iff _))
  · exact (unlessReset_of_running s _ hrun).trans (congrArg Host.Outcome.next (ifInRange_eq_ite inBounds_iff _))
  · exact (unlessReset_of_running s _ hrun).trans (congrArg Host.Outcome.next (ifInRange_eq_ite decide_eq_true_iff _))
  · obtain ⟨hok, hhigh, hlow'⟩ := thresholds_of_value h1 h63 hlow hv
    refine (exec_configWrite hrun 0x28 v).trans (congrArg Host.Outcome.next ((ifInRange_of_ok hok).trans ?_))
    rw [hhigh, hlow']
  · refine (exec_configWrite hrun 0x28 v).trans (congrArg Host.Outcome.next (ifInRange_of_bad fun hok => ?_))
    obtain ⟨h1, h63, hlow, hv⟩ := value_of_thresholds hok
    exact hbad _ _ h1 h63 hlow hv
  · exact (exec_configWrite hrun 0x29 v).trans
      (congrArg Host.Outcome.next (ifInRange_of_ok (repeatInRange_iff_mem.mpr hv)))
  · exact (exec_configWrite hrun 0x29 v).trans
      (congrArg Host.Outcome.next (ifInRange_of_bad (repeatInRange_iff_mem.not.mpr hv)))
  · exact (exec_configWrite hrun 0x2A v).trans (congrArg Host.Outcome.next (setWinSelect_of_lt hw))
  · exact (exec_configWrite hrun 0x2A v).trans (congrArg Host.Outcome.next (dif_neg (Nat.not_lt.mpr hw)))
  · exact (exec_configWrite hrun 0x31 v).trans (congrArg Host.Outcome.next (setLinkSelect_of_lt hl))
  · exact (exec_configWrite hrun 0x31 v).trans (congrArg Host.Outcome.next (dif_neg (Nat.not_lt.mpr hl)))

/-! ### WIN_CTRL (R91, R95) -/

theorem dirCtrlInRange_iff : dirCtrlInRange v = true ↔ 8 ≤ field v 8 5 ∧ field v 8 5 ≤ 24 ∧ field v 13 1 = 0 ∧
    field v 6 2 = 0 ∧ field v 3 1 = 0 := by
  simp [dirCtrlInRange, and_assoc]

/-- The fields of WIN_CTRL are those of the value that they make up. -/
theorem dirCtrl_of_value {en ro : Bool} {e : Nat} {link : LinkId} {station : StationId} (h8 : 8 ≤ e) (h24 : e ≤ 24)
    (hv : v.toNat = 32768 * en.toNat + 16384 * ro.toNat + 256 * e + 16 * link.val + station.val) :
    dirCtrlInRange v = true ∧ ∀ w : DirWindow, w.withCtrl v = { w with
      enable := en, access := if ro then .readOnly else .readWrite, exp := e, link := link, station := station } := by
  have hen := Bool.toNat_le en
  have hro := Bool.toNat_le ro
  have hlink := link.isLt
  have hstation := station.isLt
  have henable : v.getLsbD 15 = en := bool_eq_of_toNat (by rw [toNat_getLsbD]; omega)
  have haccess : v.getLsbD 14 = ro := bool_eq_of_toNat (by rw [toNat_getLsbD]; omega)
  have hexp : field v 8 5 = e := by rw [field_eq]; omega
  have hlinkField : linkField v 4 = link := Fin.ext (show field v 4 2 = link.val by rw [field_eq]; omega)
  have hstationField : stationField v 0 = station :=
    Fin.ext (show field v 0 3 = station.val by rw [field_eq]; omega)
  refine ⟨dirCtrlInRange_iff.mpr ?_, fun w => ?_⟩
  · simp only [field_eq]
    omega
  · rw [DirWindow.withCtrl, henable, haccess, hexp, hlinkField, hstationField]

theorem value_of_dirCtrl (h : dirCtrlInRange v = true) : 8 ≤ field v 8 5 ∧ field v 8 5 ≤ 24 ∧
    v.toNat = 32768 * (v.getLsbD 15).toNat + 16384 * (v.getLsbD 14).toNat + 256 * field v 8 5 +
      16 * (linkField v 4).val + (stationField v 0).val := by
  have hlink : (linkField v 4).val = field v 4 2 := rfl
  have hstation : (stationField v 0).val = field v 0 3 := rfl
  rw [hlink, hstation]
  simp only [dirCtrlInRange_iff, toNat_getLsbD, field_eq] at h ⊢
  have hv := v.isLt
  omega

theorem stripedCtrlInRange_iff : stripedCtrlInRange v = true ↔ 14 ≤ field v 8 5 ∧ field v 8 5 ≤ 24 ∧ 8 ≤ field v 0 5 ∧
    field v 0 5 ≤ 19 ∧ field v 13 2 = 0 ∧ field v 5 3 = 0 := by
  simp [stripedCtrlInRange, and_assoc]

theorem stripedCtrl_of_value {en : Bool} {e shift : Nat} (h14 : 14 ≤ e) (h24 : e ≤ 24) (h8 : 8 ≤ shift)
    (h19 : shift ≤ 19) (hv : v.toNat = 32768 * en.toNat + 256 * e + shift) :
    stripedCtrlInRange v = true ∧ ∀ w : StripedWindow, w.withCtrl v = { w with
      enable := en, exp := e, shift := shift } := by
  have hen := Bool.toNat_le en
  have henable : v.getLsbD 15 = en := bool_eq_of_toNat (by rw [toNat_getLsbD]; omega)
  have hexp : field v 8 5 = e := by rw [field_eq]; omega
  have hshift : field v 0 5 = shift := by rw [field_eq]; omega
  refine ⟨stripedCtrlInRange_iff.mpr ?_, fun w => ?_⟩
  · simp only [field_eq]
    omega
  · rw [StripedWindow.withCtrl, henable, hexp, hshift]

theorem value_of_stripedCtrl (h : stripedCtrlInRange v = true) : 14 ≤ field v 8 5 ∧ field v 8 5 ≤ 24 ∧
    8 ≤ field v 0 5 ∧ field v 0 5 ≤ 19 ∧
    v.toNat = 32768 * (v.getLsbD 15).toNat + 256 * field v 8 5 + field v 0 5 := by
  simp only [stripedCtrlInRange_iff, toNat_getLsbD, field_eq] at h ⊢
  have hv := v.isLt
  omega

/-! ### WIN_BASE and WIN_REMAP (R92) -/

theorem withHigh_eq (a : Addr) (v : Word) : withHigh a (v.extractLsb' 0 8) = v.setWidth 8 ++ a.setWidth 16 := by
  rw [withHigh, addrLow, extractLsb'_zero, extractLsb'_zero]

section

variable {k : Fin 8} (hk : directedIndex s.winSelect = some k)

include hk

theorem setWinCtrl_directed (v : Word) : setWinCtrl s v = ifInRange (dirCtrlInRange v) s
    { s with windows := s.windows.set k (s.windows[k].withCtrl v) } := by
  rw [setWinCtrl, hk]
  rfl

theorem onBase_directed (f : Addr → Addr) : onBase s f =
    { s with windows := s.windows.set k { s.windows[k] with base := f s.windows[k].base } } := by
  rw [onBase, hk]
  rfl

theorem setRemapHigh_directed (v : Word) : setRemapHigh s v = ifInRange (highPartInRange v) s { s with
    windows := s.windows.set k { s.windows[k] with
      remap := withHigh s.windows[k].remap (v.extractLsb' 0 8) } } := by
  rw [setRemapHigh, hk]
  rfl

theorem setRemapLow_directed (v : Word) : setRemapLow s v = { s with
    windows := s.windows.set k { s.windows[k] with remap := withLow s.windows[k].remap v } } := by
  rw [setRemapLow, hk]
  rfl

end

section

variable (hws : directedIndex s.winSelect = none)

include hws

theorem setWinCtrl_striped (v : Word) : setWinCtrl s v =
    ifInRange (stripedCtrlInRange v) s { s with striped := s.striped.withCtrl v } := by
  rw [setWinCtrl, hws]

theorem onBase_striped (f : Addr → Addr) :
    onBase s f = { s with striped := { s.striped with base := f s.striped.base } } := by
  rw [onBase, hws]

theorem setRemapHigh_striped (v : Word) : setRemapHigh s v = s := by
  rw [setRemapHigh, hws]

theorem setRemapLow_striped (v : Word) : setRemapLow s v = s := by
  rw [setRemapLow, hws]

end

/-- Settles O32: by the selected window, and for WIN_CTRL by the fields of the value. -/
theorem windowWritesReplaceTheirFields : Obligations.WindowWritesReplaceTheirFields := by
  intro s v hrun bad
  refine ⟨fun k hk => ?_, fun hws => ?_⟩
  · have hindex := directedIndex_of_lt hk
    refine ⟨fun en ro e link station h8 h24 hv => ?_, fun hbad => ?_, ?_, ?_, ?_, ?_⟩
    · obtain ⟨hok, hctrl⟩ := dirCtrl_of_value h8 h24 hv
      refine (exec_configWrite hrun 0x2B v).trans (congrArg Host.Outcome.next ?_)
      rw [← hctrl]
      exact (setWinCtrl_directed hindex v).trans (ifInRange_of_ok hok)
    · refine (exec_configWrite hrun 0x2B v).trans (congrArg Host.Outcome.next ?_)
      refine (setWinCtrl_directed hindex v).trans (ifInRange_of_bad fun hok => ?_)
      obtain ⟨h8, h24, hv⟩ := value_of_dirCtrl hok
      exact hbad _ _ _ _ _ h8 h24 hv
    · refine (exec_configWrite hrun 0x2C v).trans (congrArg Host.Outcome.next ?_)
      rw [← withHigh_eq]
      refine (ifInRange_eq_ite decide_eq_true_iff _).trans (ite_congr rfl (fun _ => ?_) fun _ => rfl)
      exact onBase_directed hindex _
    · exact (exec_configWrite hrun 0x2D v).trans (congrArg Host.Outcome.next (onBase_directed hindex (withLow · v)))
    · refine (exec_configWrite hrun 0x2E v).trans (congrArg Host.Outcome.next ?_)
      rw [← withHigh_eq]
      exact (setRemapHigh_directed hindex v).trans (ifInRange_eq_ite decide_eq_true_iff _)
    · exact (exec_configWrite hrun 0x2F v).trans (congrArg Host.Outcome.next (setRemapLow_directed hindex v))
  · have hindex : directedIndex s.winSelect = none := by rw [hws]; rfl
    refine ⟨fun en e shift h14 h24 h8 h19 hv => ?_, fun hbad => ?_, ?_, ?_, ?_, ?_⟩
    · obtain ⟨hok, hctrl⟩ := stripedCtrl_of_value h14 h24 h8 h19 hv
      refine (exec_configWrite hrun 0x2B v).trans (congrArg Host.Outcome.next ?_)
      rw [← hctrl]
      exact (setWinCtrl_striped hindex v).trans (ifInRange_of_ok hok)
    · refine (exec_configWrite hrun 0x2B v).trans (congrArg Host.Outcome.next ?_)
      refine (setWinCtrl_striped hindex v).trans (ifInRange_of_bad fun hok => ?_)
      obtain ⟨h14, h24, h8, h19, hv⟩ := value_of_stripedCtrl hok
      exact hbad _ _ _ h14 h24 h8 h19 hv
    · refine (exec_configWrite hrun 0x2C v).trans (congrArg Host.Outcome.next ?_)
      rw [← withHigh_eq]
      refine (ifInRange_eq_ite decide_eq_true_iff _).trans (ite_congr rfl (fun _ => ?_) fun _ => rfl)
      exact onBase_striped hindex _
    · exact (exec_configWrite hrun 0x2D v).trans (congrArg Host.Outcome.next (onBase_striped hindex (withLow · v)))
    · exact (exec_configWrite hrun 0x2E v).trans (congrArg Host.Outcome.next (setRemapHigh_striped hindex v))
    · exact (exec_configWrite hrun 0x2F v).trans (congrArg Host.Outcome.next (setRemapLow_striped hindex v))

/-! ### The configuration of a link (R8, R177 to R179) -/

theorem setLinkConfig_of_ok {ok : Bool} (h : ok = true) (f : LinkConfig → LinkConfig) : setLinkConfig s ok f =
    s.setLink s.linkSelect { s.link s.linkSelect with cfg := f (s.link s.linkSelect).cfg } := ifInRange_of_ok h

theorem setLinkConfig_of_bad {ok : Bool} (h : ¬ok = true) (f : LinkConfig → LinkConfig) :
    setLinkConfig s ok f = { s with sticky := s.sticky ||| 0x2000 } := ifInRange_of_bad h

theorem limitsInRange_iff : limitsInRange v = true ↔ field v 3 1 = 0 ∧ 1 ≤ field v 4 4 := by
  simp [limitsInRange]

theorem limits_of_value {busy replay retry : Nat} (_ : busy ≤ 255) (h1 : 1 ≤ replay) (h15 : replay ≤ 15)
    (hretry : retry ≤ 7) (hv : v.toNat = 256 * busy + 16 * replay + retry) : limitsInRange v = true ∧
    ∀ c : LinkConfig, c.withLimits v = { c with busyLimit := busy, replayLimit := replay, retryLimit := retry } := by
  have hbusyField : field v 8 8 = busy := by rw [field_eq]; omega
  have hreplayField : field v 4 4 = replay := by rw [field_eq]; omega
  have hretryField : field v 0 3 = retry := by rw [field_eq]; omega
  refine ⟨limitsInRange_iff.mpr ⟨by rw [field_eq]; omega, hreplayField ▸ h1⟩, fun c => ?_⟩
  rw [LinkConfig.withLimits, hbusyField, hreplayField, hretryField]

theorem value_of_limits (h : limitsInRange v = true) : field v 8 8 ≤ 255 ∧ 1 ≤ field v 4 4 ∧ field v 4 4 ≤ 15 ∧
    field v 0 3 ≤ 7 ∧ v.toNat = 256 * field v 8 8 + 16 * field v 4 4 + field v 0 3 := by
  simp only [limitsInRange_iff, field_eq] at h ⊢
  have hv := v.isLt
  omega

/-- Settles O33: the five values of one range, and LINK_LIMITS by its fields. -/
theorem linkConfigurationWrites : Obligations.LinkConfigurationWrites := by
  intro s v hrun
  have hexec (offset : Offset) := exec_configWrite hrun offset v
  refine ⟨fun h1 h255 => ?_, fun hbad => ?_, fun busy replay retry hbusy h1 h15 hretry hv => ?_, fun hbad => ?_⟩
  · have hok := inUnits_iff.mpr ⟨h1, h255⟩
    exact ⟨(hexec _).trans (congrArg Host.Outcome.next (setLinkConfig_of_ok hok fun c => { c with rate := v.toNat })),
      (hexec _).trans (congrArg Host.Outcome.next (setLinkConfig_of_ok hok fun c => { c with replyTo := v.toNat })),
      (hexec _).trans (congrArg Host.Outcome.next (setLinkConfig_of_ok hok fun c => { c with replayTo := v.toNat })),
      (hexec _).trans (congrArg Host.Outcome.next (setLinkConfig_of_ok hok fun c => { c with delay := v.toNat })),
      (hexec _).trans (congrArg Host.Outcome.next (setLinkConfig_of_ok hok fun c => { c with hold := v.toNat }))⟩
  · have hnot : ¬inUnits v = true := fun hok => by
      obtain ⟨h1, h255⟩ := inUnits_iff.mp hok
      omega
    simp only [List.forall_mem_cons, List.not_mem_nil, false_imp_iff, implies_true, and_true]
    exact ⟨(hexec _).trans (congrArg Host.Outcome.next (setLinkConfig_of_bad hnot fun c => { c with rate := v.toNat })),
      (hexec _).trans (congrArg Host.Outcome.next (setLinkConfig_of_bad hnot fun c => { c with replyTo := v.toNat })),
      (hexec _).trans (congrArg Host.Outcome.next (setLinkConfig_of_bad hnot fun c => { c with replayTo := v.toNat })),
      (hexec _).trans (congrArg Host.Outcome.next (setLinkConfig_of_bad hnot fun c => { c with delay := v.toNat })),
      (hexec _).trans (congrArg Host.Outcome.next (setLinkConfig_of_bad hnot fun c => { c with hold := v.toNat }))⟩
  · obtain ⟨hok, hlimits⟩ := limits_of_value hbusy h1 h15 hretry hv
    refine (hexec 0x38).trans (congrArg Host.Outcome.next ((setLinkConfig_of_ok hok (·.withLimits v)).trans ?_))
    rw [hlimits]
  · refine (hexec 0x38).trans (congrArg Host.Outcome.next (setLinkConfig_of_bad (fun hok => ?_) (·.withLimits v)))
    obtain ⟨hbusy, h1, h15, hretry, hv⟩ := value_of_limits hok
    exact hbad _ _ _ hbusy h1 h15 hretry hv

end

end Sys2Proof.Proofs.RegisterWrites
end

section
/-! The statements on commands that do not occur, on the edges of the host strobes, and on the two resets (logs 3, 4, 9
and 19; R174 to R176, R180, R181). -/

namespace Sys2Proof.Proofs.BusAndResets

open Sys2Proof Sys2Proof.Machine Sys2Proof.Laws Sys2Proof.Proofs.Registers Sys2Proof.Proofs.RegisterReads
  Sys2Proof.Proofs.RegisterWrites

section

variable {s : State}

/-! ### Commands that do not occur (log 4) -/

theorem unlessReset_of_reset (t : State) (h : s.inReset = true) : unlessReset s t = .next s :=
  congrArg Host.Outcome.next (if_pos h)

/-- While RESET_N is low nothing but its release and its assertion has an effect (R180). -/
theorem exec_of_reset {c : Instr} (hpin : c ≠ .pinReset) (hrelease : c ≠ .resetRelease) (h : s.inReset = true) :
    exec c s = .next s := by
  cases c with
  | pinReset => exact absurd rfl hpin
  | resetRelease => exact absurd rfl hrelease
  | _ => exact unlessReset_of_reset _ h

theorem exec_resetRelease_of_running (h : s.inReset = false) : exec .resetRelease s = .next s :=
  congrArg Host.Outcome.next (by rw [← h])

/-- A condition that does not hold leaves the state as it is. -/
theorem unlessReset_ite_of_false {b : Bool} (t : State) (h : b = false) :
    unlessReset s (if b then t else s) = .next s := by
  rw [h, unlessReset]
  simp

/-- A change of a record that is not there, or that leaves it as it is, changes nothing. -/
theorem modify_eq_self {α : Type} {f : α → α} {xs : List α} {n : Nat} (h : ∀ x, xs[n]? = some x → f x = x) :
    xs.modify n f = xs := by
  refine List.ext_getElem? fun m => ?_
  rw [List.getElem?_modify]
  by_cases hmn : n = m
  · subst hmn
    cases hx : xs[n]? with
    | none => rfl
    | some x => simp [h x hx]
  · simp [hmn]

theorem ageIncrement_completion_of_not_due {n : Nat} (h : ∀ r, s.cq[n]? = some r → r.age.due = false) :
    ageIncrement s .completion n = s := by
  rw [ageIncrement, modify_eq_self fun r hr => by rw [h r hr]; rfl]

theorem ageIncrement_event_of_not_due {n : Nat} (h : ∀ r, s.eq[n]? = some r → r.age.due = false) :
    ageIncrement s .event n = s := by
  rw [ageIncrement, modify_eq_self fun r hr => by rw [h r hr]; rfl]

theorem endRequest_of_absent {l : LinkId}
    (h : ∀ f, (s.link l).sch.tx = .sending f .resend ∨ (∃ held, (s.link l).sch.tx = .sending f (.queueHead held)) →
      f.request = none) : endRequest s l = s := by
  cases htx : (s.link l).sch.tx with
  | idle | aborting rest => simp only [endRequest, htx]
  | sending f src =>
    cases src with
    | control | pass =>
      simp only [endRequest, htx]
      cases f.request <;> rfl
    | resend => simp only [endRequest, htx, h f (.inl htx)]
    | queueHead held => simp only [endRequest, htx, h f (.inr ⟨held, htx⟩)]

/-- Settles O3: in reset nothing has an effect, and out of reset each condition of `occurs` is that of the command. -/
theorem commandsThatDoNotOccurChangeNothing : Obligations.CommandsThatDoNotOccurChangeNothing := by
  intro c s hnot
  cases hreset : s.inReset with
  | true =>
    refine exec_of_reset (fun hpin => ?_) (fun hrelease => ?_) hreset
    · rw [hpin] at hnot
      exact Bool.noConfusion hnot
    · rw [hrelease] at hnot
      exact Bool.noConfusion (hreset.symm.trans hnot)
  | false =>
    have hrun (t : State) : unlessReset s t = .next t := unlessReset_of_running s t hreset
    have hcond {b : Bool} (h : (!s.inReset && b) = false) : b = false := by simpa [hreset] using h
    cases c with
    | pinReset => exact Bool.noConfusion hnot
    | resetRelease => exact exec_resetRelease_of_running hreset
    | replyTimerExpiry i => exact unlessReset_ite_of_false _ (hcond hnot)
    | retryDelayExpiry i => exact unlessReset_ite_of_false _ (hcond hnot)
    | replayTimerExpiry l => exact unlessReset_ite_of_false _ (hcond hnot)
    | pauseHoldExpiry l => exact unlessReset_ite_of_false _ (hcond hnot)
    | helloIntervalExpiry l => exact unlessReset_ite_of_false _ (hcond hnot)
    | cqAgeExpiry => exact unlessReset_ite_of_false _ (hcond hnot)
    | eqAgeExpiry => exact unlessReset_ite_of_false _ (hcond hnot)
    | ageCountIncrement q n =>
      refine (hrun _).trans (congrArg Host.Outcome.next ?_)
      cases q with
      | completion =>
        exact ageIncrement_completion_of_not_due fun r hr => by simpa [occurs, hreset, hr] using hnot
      | event => exact ageIncrement_event_of_not_due fun r hr => by simpa [occurs, hreset, hr] using hnot
    | endOfRequestTransmission l =>
      refine (hrun _).trans (congrArg Host.Outcome.next (endRequest_of_absent fun f htx => ?_))
      obtain htx | ⟨held, htx⟩ := htx <;> simpa [occurs, hreset, htx] using hnot
    | endOfFirstWrTransmission l =>
      refine (hrun _).trans (congrArg Host.Outcome.next ?_)
      unfold endWrite
      split
      next htx => simp [occurs, hreset, htx] at hnot
      next => rfl
    | endOfPassFrame l =>
      refine (hrun _).trans (congrArg Host.Outcome.next ?_)
      unfold endPassSending
      split
      next htx => simp [occurs, hreset, htx] at hnot
      next => rfl
    | endOfControlFrame l =>
      refine (hrun _).trans (congrArg Host.Outcome.next ?_)
      unfold endControl
      split
      next htx => simp [occurs, hreset, htx] at hnot
      next => rfl
    | abortSequenceEnd l =>
      refine (hrun _).trans (congrArg Host.Outcome.next ?_)
      unfold endAbort
      split
      next htx => simp [occurs, hreset, htx] at hnot
      next => rfl
    | _ => exact Bool.noConfusion ((congrArg (!·) hreset).symm.trans hnot)

/-! ### The edges of the strobes (R174, log 19) -/

theorem writing_iff (s : State) : s.cycle = .write ↔
    s.bus.csN = false ∧ s.bus.wrN = false ∧ s.bus.rdN = true ∧ s.inReset = false := by
  rw [cycle_eq_write]
  tauto

/-- The rise of a strobe in a write never makes the cycle a read. -/
theorem not_read_of_write_rise (strobe : Strobe) (hs : s.cycle = .write) :
    (s.withStrobe strobe true).cycle ≠ .read := by
  intro hread
  obtain ⟨-, hrd, -, -⟩ := (cycle_eq_write s).mp hs
  obtain ⟨-, hlow, -, -⟩ := (cycle_eq_read _).mp hread
  cases strobe <;> simp [State.withStrobe, HostBus.setStrobe, hrd] at hlow

/-! ### The command of a write (R97, R144, R176, R183) -/

/-- The offsets whose writes have rows of their own, CHIP_CMD among them for the value 1. -/
def rowOffsets : List Offset := [0x00, 0x01, 0x02, 0x04, 0x05, 0x07, 0x09, 0x18, 0x19, 0x1A, 0x25, 0x26, 0x27, 0x32]

theorem hostCommand_of_other {offset : Offset} (h : offset ∉ rowOffsets) (v : Word) :
    hostCommand offset v = .configWrite offset v := by
  simp only [rowOffsets, List.mem_cons, List.not_mem_nil, or_false, not_or, ← BitVec.toNat_inj] at h
  unfold hostCommand
  split <;> simp_all

theorem isConfigWrite_of_other {offset : Offset} (h : offset ∉ rowOffsets) (v : Word) :
    isConfigWrite offset v = true := by
  simp only [rowOffsets, List.mem_cons, List.not_mem_nil, or_false, not_or] at h
  simpa [isConfigWrite, ownRowOffsets] using ⟨h.2, .inl h.1⟩

theorem exec_chipCommand (hrun : s.inReset = false) (v : Word) :
    exec (hostCommand 0x00 v) s = .next (registerWrite s 0x00 v) := by
  by_cases h1 : v = 1
  · subst h1
    exact unlessReset_of_running s _ hrun
  · rw [show hostCommand 0x00 v = .configWrite 0x00 v from if_neg h1, exec_configWrite hrun]

theorem exec_issueWrite_code (hrun : s.inReset = false) (v : Word) :
    exec (hostCommand 0x07 v) s = .next (registerWrite s 0x07 v) := by
  by_cases h1 : v = 1
  · subst h1
    exact unlessReset_of_running s _ hrun
  by_cases h2 : v = 2
  · subst h2
    exact unlessReset_of_running s _ hrun
  by_cases h3 : v = 3
  · subst h3
    exact unlessReset_of_running s _ hrun
  rw [show hostCommand 0x07 v = .badKind v from (if_neg h1).trans ((if_neg h2).trans (if_neg h3))]
  exact unlessReset_of_running s _ hrun

theorem exec_linkCommand (hrun : s.inReset = false) (v : Word) :
    exec (hostCommand 0x32 v) s = .next (registerWrite s 0x32 v) := by
  by_cases h1 : v = 1
  · subst h1
    exact unlessReset_of_running s _ hrun
  by_cases h2 : v = 2
  · subst h2
    exact unlessReset_of_running s _ hrun
  rw [show hostCommand 0x32 v = .badCommand v from (if_neg h1).trans (if_neg h2)]
  exact unlessReset_of_running s _ hrun

/-- A write has the effect of `registerWrite`, by whichever row of the table. -/
theorem exec_hostCommand (hrun : s.inReset = false) (offset : Offset) (v : Word) :
    exec (hostCommand offset v) s = .next (registerWrite s offset v) := by
  by_cases h : offset ∈ rowOffsets
  · simp only [rowOffsets, List.mem_cons, List.not_mem_nil, or_false] at h
    obtain rfl | rfl | rfl | rfl | rfl | rfl | rfl | rfl | rfl | rfl | rfl | rfl | rfl | rfl := h
    case inl => exact exec_chipCommand hrun v
    case inr.inr.inr.inr.inr.inl => exact exec_issueWrite_code hrun v
    case inr.inr.inr.inr.inr.inr.inr.inr.inr.inr.inr.inr.inr => exact exec_linkCommand hrun v
    all_goals exact unlessReset_of_running s _ hrun
  · rw [hostCommand_of_other h, exec_configWrite hrun]

theorem wellFormed_chipCommand (v : Word) : (hostCommand 0x00 v).wellFormed = true := by
  by_cases h1 : v = 1
  · subst h1
    rfl
  · rw [show hostCommand 0x00 v = .configWrite 0x00 v from if_neg h1]
    simpa [Instr.wellFormed, isConfigWrite, ownRowOffsets] using h1

theorem wellFormed_issueWrite_code (v : Word) : (hostCommand 0x07 v).wellFormed = true := by
  by_cases h1 : v = 1
  · subst h1
    rfl
  by_cases h2 : v = 2
  · subst h2
    rfl
  by_cases h3 : v = 3
  · subst h3
    rfl
  rw [show hostCommand 0x07 v = .badKind v from (if_neg h1).trans ((if_neg h2).trans (if_neg h3))]
  simpa [Instr.wellFormed] using ⟨⟨h1, h2⟩, h3⟩

theorem wellFormed_linkCommand (v : Word) : (hostCommand 0x32 v).wellFormed = true := by
  by_cases h1 : v = 1
  · subst h1
    rfl
  by_cases h2 : v = 2
  · subst h2
    rfl
  rw [show hostCommand 0x32 v = .badCommand v from (if_neg h1).trans (if_neg h2)]
  simpa [Instr.wellFormed] using ⟨h1, h2⟩

theorem hostCommand_wellFormed (offset : Offset) (v : Word) : (hostCommand offset v).wellFormed = true := by
  by_cases h : offset ∈ rowOffsets
  · simp only [rowOffsets, List.mem_cons, List.not_mem_nil, or_false] at h
    obtain rfl | rfl | rfl | rfl | rfl | rfl | rfl | rfl | rfl | rfl | rfl | rfl | rfl | rfl := h
    case inl => exact wellFormed_chipCommand v
    case inr.inr.inr.inr.inr.inl => exact wellFormed_issueWrite_code v
    case inr.inr.inr.inr.inr.inr.inr.inr.inr.inr.inr.inr.inr => exact wellFormed_linkCommand v
    all_goals rfl
  · rw [hostCommand_of_other h]
    exact isConfigWrite_of_other h v

/-- Settles O4: the edges by the cycle before and after, then the command and the effect of each write. -/
theorem hostAccessesAreTakenAtTheirEdges : Obligations.HostAccessesAreTakenAtTheirEdges := by
  refine ⟨fun s strobe high offset data => ?_, fun v => ⟨?_, rfl, fun h => if_neg h, rfl, rfl, rfl,
    fun h1 h2 h3 => (if_neg h1).trans ((if_neg h2).trans (if_neg h3)), rfl, rfl,
    fun h1 h2 => (if_neg h1).trans (if_neg h2), fun offset hoffset => hostCommand_of_other hoffset v⟩,
    fun s v hrun => ⟨fun offset => ⟨hostCommand_wellFormed offset v, exec_hostCommand hrun offset v⟩, ?_, fun h => ?_⟩⟩
  · intro edge b now reading writing
    have hb : b = s.bus.setStrobe strobe high := by cases strobe <;> rfl
    have hs : reading s.bus ↔ s.cycle = .read := (cycle_eq_read s).symm
    have hs' : writing s.bus ↔ s.cycle = .write := (writing_iff s).symm
    have ht : reading b ↔ (s.withStrobe strobe high).cycle = .read := by
      rw [hb]
      exact (cycle_eq_read (s.withStrobe strobe high)).symm
    have ht' : writing b ↔ (s.withStrobe strobe high).cycle = .write := by
      rw [hb]
      exact (writing_iff (s.withStrobe strobe high)).symm
    have hnow (w : Option Word) : now w = .next ((s.withStrobe strobe high).drive w) := by
      simp only [now, hb]
      rfl
    simp only [hs, hs', ht, ht', hnow]
    refine ⟨fun hout hin hfall => ?_, fun hout hin => ?_, fun hout hin hrise => ?_, fun hout hin hrise => ?_,
      fun hout hin => ?_⟩
    · subst hfall
      exact busEdge_of_read_event offset data hout hin
    · refine (busEdge_within_a_read offset data hout hin).trans (congrArg Host.Outcome.next ?_)
      cases strobe <;> rfl
    · refine busEdge_of_no_event offset data (fun _ => ⟨hout, hrise⟩) fun hwrite _ => ?_
      subst hrise
      exact absurd hin (not_read_of_write_rise strobe hwrite)
    · subst hrise
      rw [hb]
      exact busEdge_of_write_event offset data hout hin
    · refine busEdge_of_no_event offset data (fun hread => absurd hread hout) fun hwrite hrise => ?_
      obtain hnot | hin | hfall := hin
      · exact absurd hwrite hnot
      · exact hin
      · exact Bool.noConfusion (hfall.symm.trans hrise)
  · simp only [List.forall_mem_cons, List.not_mem_nil, false_imp_iff, implies_true, and_true]
    exact ⟨rfl, rfl, rfl, rfl, rfl, rfl, rfl, rfl, rfl, rfl, rfl⟩
  · have hexec (offset : Offset) (h : registerWrite s offset v = s) : exec (.configWrite offset v) s = .next s :=
      (exec_configWrite hrun offset v).trans (congrArg Host.Outcome.next h)
    simp only [List.forall_mem_cons, List.not_mem_nil, false_imp_iff, implies_true, and_true]
    exact ⟨hexec _ rfl, hexec _ rfl, hexec _ rfl, hexec _ rfl, hexec _ rfl, hexec _ rfl, hexec _ rfl, hexec _ rfl,
      hexec _ rfl, hexec _ rfl, hexec _ rfl, hexec _ rfl, hexec _ rfl, hexec _ rfl, hexec _ rfl, hexec _ rfl,
      hexec _ rfl, hexec _ rfl, hexec _ rfl, hexec _ rfl, hexec _ rfl, hexec _ rfl, hexec _ rfl, hexec _ rfl,
      hexec _ rfl, hexec _ rfl, hexec _ rfl, hexec _ rfl, hexec _ rfl, hexec _ rfl, hexec _ rfl, hexec _ rfl,
      hexec _ rfl, hexec _ rfl⟩
  · exact (exec_configWrite hrun 0x00 v).trans (congrArg Host.Outcome.next (if_neg h))

end

end Sys2Proof.Proofs.BusAndResets
end

section
/-! The statements on the two resets (logs 3, 9 and 12; R180, R181). -/

namespace Sys2Proof.Proofs.BusAndResets

open Sys2Proof Sys2Proof.Machine Sys2Proof.Laws Sys2Proof.Proofs.Registers Sys2Proof.Proofs.HostIssues
  Sys2Proof.Proofs.RegisterReads Sys2Proof.Proofs.RegisterWrites

section

variable {s : State}

/-! ### PIN_RESET (R180) -/

theorem reset_link (l : LinkId) : State.reset.link l = Link.pinReset := by
  simp [State.reset, State.link]

theorem reset_tag (i : TagId) : State.reset.tag i = Tag.pinReset := by
  simp [State.reset, State.tag]

theorem reset_window (k : Fin 8) : State.reset.windows[k] = DirWindow.pinReset := by
  simp [State.reset]

theorem tagsInUse_eq_zero (h : ∀ i : TagId, (s.tag i).state = .free) : tagsInUse s = 0 := by
  rw [tagsInUse_eq, List.countP_eq_zero]
  intro i _
  simp [h i]

theorem tagsInUse_reset : tagsInUse State.reset = 0 :=
  tagsInUse_eq_zero fun i => by rw [reset_tag]; rfl

/-- The reset column of the registers that no selector changes (R183). -/
theorem reset_reads_zero : ∀ offset ∈ ([0x00, 0x01, 0x02, 0x03, 0x04, 0x05, 0x06, 0x07, 0x09, 0x0A, 0x10, 0x11, 0x12,
    0x13, 0x14, 0x15, 0x16, 0x17, 0x18, 0x1A, 0x20, 0x21, 0x22, 0x23, 0x24, 0x25, 0x27, 0x2A, 0x30, 0x31, 0x32,
    0x33] : List Offset), registerRead State.reset offset = 0 := by
  have hused : registerRead State.reset 0x0A = 0 := congrArg (placed · 0) tagsInUse_reset
  simp only [List.forall_mem_cons, List.not_mem_nil, false_imp_iff, implies_true, and_true]
  exact ⟨rfl, rfl, rfl, rfl, rfl, rfl, rfl, rfl, rfl, hused, rfl, rfl, rfl, rfl, rfl, rfl, rfl, rfl, rfl, rfl, rfl,
    rfl, rfl, rfl, rfl, rfl, rfl, rfl, rfl, rfl, rfl, rfl⟩

/-- The reset column of the registers of a link, for each link. -/
theorem reset_reads_link (l : LinkId) :
    (∀ offset ∈ ([0x34, 0x3B, 0x3C, 0x3D, 0x3E, 0x3F] : List Offset),
      registerRead { State.reset with linkSelect := l } offset = 0) ∧
    (∀ p ∈ ([(0x35, 4), (0x36, 0x10), (0x37, 0x10), (0x38, 0x1043), (0x39, 8), (0x3A, 0x28)] : List (Offset × Word)),
      registerRead { State.reset with linkSelect := l } p.1 = p.2) := by
  have hlink (f : Link → Word) : f (State.reset.link l) = f Link.pinReset := congrArg f (reset_link l)
  simp only [List.forall_mem_cons, List.not_mem_nil, false_imp_iff, implies_true, and_true]
  exact ⟨⟨hlink Link.statusWord, hlink Link.occWord, hlink Link.statAWord, hlink (placed ·.rcv.badFrames 0),
    hlink (addrHigh <| ·.ctl.firstDiscard.getD 0), hlink (addrLow <| ·.ctl.firstDiscard.getD 0)⟩,
    hlink (placed ·.cfg.rate 0), hlink (placed ·.cfg.replyTo 0), hlink (placed ·.cfg.replayTo 0),
    hlink (·.cfg.limitsWord), hlink (placed ·.cfg.delay 0), hlink (placed ·.cfg.hold 0)⟩

/-- The reset column of the registers of a window, for each window. -/
theorem reset_reads_window (w : Fin 9) :
    registerRead { State.reset with winSelect := w } 0x2B = (if w = 8 then 0x1808 else 0x0800) ∧
    ∀ offset ∈ ([0x2C, 0x2D, 0x2E, 0x2F] : List Offset),
      registerRead { State.reset with winSelect := w } offset = 0 := by
  simp only [List.forall_mem_cons, List.not_mem_nil, false_imp_iff, implies_true, and_true]
  revert w
  decide

/-- Settles O5: the reset column and the state behind it are those of `State.reset`, entry by entry. -/
theorem pinResetSetsTheResetColumn : Obligations.PinResetSetsTheResetColumn :=
  ⟨fun _ => ⟨rfl, rfl⟩, reset_reads_zero, rfl, rfl, rfl, rfl, rfl, reset_reads_link, reset_reads_window, rfl, rfl, rfl,
    rfl, reset_tag, reset_window, rfl, reset_link, rfl⟩

/-! ### SOFT_RESET (R181) -/

theorem softReset_tag (s : State) (i : TagId) : (softReset s).tag i = (s.tag i).freed :=
  getElem_mapTable Tag.freed s.tags i

theorem tagsInUse_softReset (s : State) : tagsInUse (softReset s) = 0 :=
  tagsInUse_eq_zero fun i => by rw [softReset_tag]; rfl

theorem intStatus_softReset (s : State) : intStatus (softReset s) = 0 := by
  have hcq : cqCondition (softReset s) = false := rfl
  have heq : eqCondition (softReset s) = false := rfl
  have hsticky : (softReset s).sticky = 0 := rfl
  rw [intStatus, hcq, heq, hsticky]
  decide

theorem softReset_reads_zero (s : State) : ∀ offset ∈ ([0x01, 0x0A, 0x10, 0x11, 0x12, 0x13, 0x14, 0x15, 0x16, 0x17,
    0x20, 0x21, 0x22, 0x23, 0x24, 0x33, 0x34, 0x3B, 0x3C, 0x3D, 0x3E, 0x3F] : List Offset),
    registerRead (softReset s) offset = 0 := by
  have hused : registerRead (softReset s) 0x0A = 0 := congrArg (placed · 0) (tagsInUse_softReset s)
  have hcommand : CmdResult.clear.word = 0 := by decide
  have hlink (f : Link → Word)
      (hkept : f (Link.softReset s.freeCount s.linkSelect (s.link s.linkSelect)) = f Link.pinReset)
      (hzero : f Link.pinReset = 0) : f ((softReset s).link s.linkSelect) = 0 :=
    (congrArg f (softReset_link s _)).trans (hkept.trans hzero)
  simp only [List.forall_mem_cons, List.not_mem_nil, false_imp_iff, implies_true, and_true]
  exact ⟨intStatus_softReset s, hused, rfl, rfl, rfl, rfl, rfl, rfl, rfl, rfl, rfl, rfl, rfl, rfl, rfl, hcommand,
    hlink Link.statusWord rfl (by decide), hlink Link.occWord rfl (by decide), hlink Link.statAWord rfl (by decide),
    hlink (placed ·.rcv.badFrames 0) rfl (by decide), hlink (addrHigh <| ·.ctl.firstDiscard.getD 0) rfl (by decide),
    hlink (addrLow <| ·.ctl.firstDiscard.getD 0) rfl (by decide)⟩

theorem softReset_reads_kept (s : State) : ∀ offset ∈ ([0x02, 0x03, 0x04, 0x05, 0x06, 0x19, 0x1A, 0x26, 0x27, 0x28,
    0x29, 0x2A, 0x2B, 0x2C, 0x2D, 0x2E, 0x2F, 0x30, 0x31, 0x35, 0x36, 0x37, 0x38, 0x39, 0x3A] : List Offset),
    registerRead (softReset s) offset = registerRead s offset := by
  have hcfg (f : LinkConfig → Word) : f ((softReset s).link s.linkSelect).cfg = f (s.link s.linkSelect).cfg := by
    rw [softReset_link]
    rfl
  simp only [List.forall_mem_cons, List.not_mem_nil, false_imp_iff, implies_true, and_true]
  exact ⟨rfl, rfl, rfl, rfl, rfl, rfl, rfl, rfl, rfl, rfl, rfl, rfl, rfl, rfl, rfl, rfl, rfl, rfl, rfl,
    hcfg (placed ·.rate 0), hcfg (placed ·.replyTo 0), hcfg (placed ·.replayTo 0), hcfg LinkConfig.limitsWord,
    hcfg (placed ·.delay 0), hcfg (placed ·.hold 0)⟩

theorem intN_of_clear {t : State} (h : intStatus t = 0) : t.intN = true := by
  rw [State.intN, intAsserted, h]
  simp

/-- Settles O6: the tags, the links and the registers of the state that SOFT_RESET answers. -/
theorem softResetClearsTheTraffic : Obligations.SoftResetClearsTheTraffic := by
  intro s hrun
  have hlink (l : LinkId) : (softReset s).link l = Link.softReset s.freeCount l (s.link l) := softReset_link s l
  have hissue : IssueResult.clear.word = 0x1E00 := by decide
  refine ⟨softReset s, unlessReset_of_running s _ hrun, rfl, softReset_tag s, fun l => ⟨?_, ?_⟩, intStatus_softReset s,
    intN_of_clear (intStatus_softReset s),
    tagsInUse_softReset s, hissue, softReset_reads_zero s, softReset_reads_kept s⟩
  · rw [hlink]
    rfl
  · rw [hlink]
    exact abortTx_abortedTo ..

end

end Sys2Proof.Proofs.BusAndResets
end

section
/-! The statements on frames and the line: the judgement of a frame (R136), stuffing and what a receiver makes of a
stuffed body (R128, R129, R134), the frames of the stations and of the bridge (R126, R130 to R132), and aborted frames
(R49, R135). -/

namespace Sys2Proof.Proofs.Framing

open Sys2Proof Sys2Proof.Machine Sys2Proof.Laws Sys2Proof.Proofs.Received Sys2Proof.Proofs.RegisterWrites

/-! ### The judgement of a frame (R136) -/

/-- A frame is good exactly when it meets none of the items of R136 and its body reads as the frame. -/
theorem judge_eq_some_iff {r : Receiver} {f : RxFrame} : r.judge = some f ↔
    ∃ h rest, r.kept = h :: rest ∧ r.badMark = false ∧ rxLength (headerKind h) = some r.byteCount ∧
      h.getLsbD 3 = false ∧
      r.kept.drop (r.byteCount - 2) = wordBytes (crc (r.kept.take (r.byteCount - 2))) ∧
      readBody (r.kept.take (r.byteCount - 2)) = some f := by
  cases hkept : r.kept with
  | nil => simp [Receiver.judge, hkept]
  | cons h rest =>
    simp only [Receiver.judge, hkept, List.cons.injEq]
    constructor
    · intro hjudge
      split_ifs at hjudge with hmark hlength hbit hcrc
      exact ⟨h, rest, ⟨rfl, rfl⟩, by simpa using hmark, not_not.mp hlength, by simpa using hbit,
        not_not.mp hcrc, hjudge⟩
    · rintro ⟨h, rest, ⟨rfl, rfl⟩, hmark, hlength, hbit, hcrc, hread⟩
      rw [if_neg (by simp [hmark]), if_neg (not_not_intro hlength), if_neg (Bool.eq_false_iff.mp hbit),
        if_neg (not_not_intro hcrc)]
      exact hread

theorem judge_eq_none {r : Receiver} (h : ∀ f, r.judge ≠ some f) : r.judge = none :=
  Option.eq_none_iff_forall_not_mem.mpr h

theorem rxLength_eq_some {kind n : Nat} (h : rxLength kind = some n) : 4 ≤ n ∧ n ≤ 6 := by
  unfold rxLength at h
  split at h <;> simp_all <;> omega

theorem rxLength_four {kind : Nat} (h : kind ∈ [1, 2, 6, 7, 9, 12, 13]) : rxLength kind = some 4 := by
  revert kind
  decide

theorem rxLength_six {kind : Nat} (h : kind ∈ [8, 11]) : rxLength kind = some 6 := by
  revert kind
  decide

theorem rxLength_none {kind : Nat} (h : kind ∈ [0, 3, 4, 5, 14, 15]) : rxLength kind = none := by
  revert kind
  decide

/-- A frame whose length is not that of its kind is malformed. -/
theorem judge_of_length {r : Receiver} {h : Byte} {rest : List Byte} (hkept : r.kept = h :: rest)
    (hlength : rxLength (headerKind h) ≠ some r.byteCount) : r.judge = none := by
  refine judge_eq_none fun f hf => ?_
  obtain ⟨h', rest', hkept', -, hlength', -⟩ := judge_eq_some_iff.mp hf
  obtain ⟨rfl, -⟩ := List.cons.inj (hkept.symm.trans hkept')
  exact hlength hlength'

theorem wordBytes_eq (w : Word) : wordBytes w = [BitVec.ofNat 8 (w.toNat / 256), BitVec.ofNat 8 w.toNat] := by
  have hhigh : w.extractLsb' 8 8 = BitVec.ofNat 8 (w.toNat / 256) := by
    rw [BitVec.extractLsb', Nat.shiftRight_eq_div_pow]
  rw [wordBytes, hhigh]
  rfl

/-- Settles O20: each item of R136 contradicts the judgement of a good frame. -/
theorem malformedFramesAreRefused : Obligations.MalformedFramesAreRefused := by
  intro r hcount
  refine ⟨fun hmark => ?_, fun hshort => ?_, fun h rest hkept => ⟨judge_of_length hkept, fun hkind hlength => ?_,
    fun hkind hlength => ?_, fun hkind hlength => ?_, fun hkind => ?_, fun hbit => ?_⟩,
    fun body c1 c2 hkept hlength hcrc => ?_⟩
  · refine judge_eq_none fun f hf => ?_
    obtain ⟨-, -, -, hclear, -⟩ := judge_eq_some_iff.mp hf
    exact Bool.noConfusion (hmark.symm.trans hclear)
  · refine judge_eq_none fun f hf => ?_
    obtain ⟨h, rest, -, -, hlength, -⟩ := judge_eq_some_iff.mp hf
    exact absurd (rxLength_eq_some hlength).1 (Nat.not_le.mpr hshort)
  · exact judge_of_length hkept fun h => hlength (Option.some.inj (h.symm.trans (rxLength_four hkind)))
  · refine judge_of_length hkept fun h => hlength (Option.some.inj (h.symm.trans ?_))
    rw [headerKind, hkind, rxLength]
  · exact judge_of_length hkept fun h => hlength (Option.some.inj (h.symm.trans (rxLength_six hkind)))
  · exact judge_of_length hkept fun h => Option.some_ne_none _ (h.symm.trans (rxLength_none hkind))
  · refine judge_eq_none fun f hf => ?_
    obtain ⟨h', rest', hkept', -, -, hclear, -⟩ := judge_eq_some_iff.mp hf
    obtain ⟨rfl, -⟩ := List.cons.inj (hkept.symm.trans hkept')
    exact Bool.noConfusion (hbit.symm.trans hclear)
  · refine judge_eq_none fun f hf => hcrc ?_
    obtain ⟨-, -, -, -, -, -, hsame, -⟩ := judge_eq_some_iff.mp hf
    rw [hkept, hlength, Nat.add_sub_cancel, List.drop_left, List.take_left, wordBytes_eq] at hsame
    exact hsame.symm

/-! ### Stuffing and the receiver (R129, R134) -/

theorem stuff_eq (b : Byte) :
    stuff b = if b = 0xA5 then [0x5A, 0x85] else if b = 0x5A then [0x5A, 0x7A] else [b] := by
  by_cases hflag : b = 0xA5
  · subst hflag
    rfl
  by_cases hescape : b = 0x5A
  · subst hescape
    rfl
  rw [if_neg hflag, if_neg hescape]
  exact if_neg (not_or.mpr ⟨hflag, hescape⟩)

/-- A receiver within a frame, with the bytes that it has taken. -/
def holding (r : Receiver) (bytes : List Byte) : Receiver :=
  { r with framing := .inFrame, kept := bytes.take 9, byteCount := bytes.length, badMark := false }

theorem take_flag_of_hunting {r : Receiver} (h : r.framing = .hunting) : r.take 0xA5 = holding r [] :=
  take_of_hunting h 0xA5

theorem append_holding (r : Receiver) (bytes : List Byte) (b : Byte) :
    (holding r bytes).append b = holding r (bytes ++ [b]) := by
  have hkept : (if (bytes.take 9).length < 9 then bytes.take 9 ++ [b] else bytes.take 9) = (bytes ++ [b]).take 9 := by
    rw [List.length_take]
    by_cases hlt : bytes.length < 9
    · rw [if_pos (by omega), List.take_of_length_le (by omega), List.take_of_length_le (by simp; omega)]
    · rw [if_neg (by omega), List.take_append_of_le_length (by omega)]
  have htaken : holding r (bytes ++ [b]) =
      { holding r bytes with kept := (bytes ++ [b]).take 9, byteCount := bytes.length + 1 } := by
    rw [holding, List.length_append]
    rfl
  rw [htaken, ← hkept]
  rfl

/-- A stuffed byte is taken as the byte. -/
theorem foldl_take_stuff (r : Receiver) (bytes : List Byte) (b : Byte) :
    (stuff b).foldl Receiver.take (holding r bytes) = holding r (bytes ++ [b]) := by
  rw [stuff_eq, ← append_holding]
  by_cases hflag : b = 0xA5
  · subst hflag
    rfl
  by_cases hescape : b = 0x5A
  · subst hescape
    rfl
  rw [if_neg hflag, if_neg hescape]
  exact (take_of_inFrame (r := holding r bytes) rfl b).trans ((if_neg hflag).trans (if_neg hescape))

theorem foldl_take_flatMap_stuff (r : Receiver) (taken bytes : List Byte) :
    (bytes.flatMap stuff).foldl Receiver.take (holding r taken) = holding r (taken ++ bytes) := by
  induction bytes generalizing taken with
  | nil => simp
  | cons b rest ih => rw [List.flatMap_cons, List.foldl_append, foldl_take_stuff, ih, List.append_assoc]; rfl

/-- The opening flag and a stuffed run of bytes, taken by a receiver in HUNTING. -/
theorem foldl_take_opened {r : Receiver} (h : r.framing = .hunting) (bytes : List Byte) :
    (0xA5 :: bytes.flatMap stuff).foldl Receiver.take r = holding r bytes := by
  rw [List.foldl_cons, take_flag_of_hunting h, foldl_take_flatMap_stuff, List.nil_append]

theorem dropLast_frameOnLine (body : List Byte) :
    (frameOnLine body).dropLast = 0xA5 :: (withCrc body).flatMap stuff :=
  List.dropLast_concat (l₁ := 0xA5 :: (withCrc body).flatMap stuff)

theorem getLast?_frameOnLine (body : List Byte) : (frameOnLine body).getLast? = some 0xA5 :=
  List.getLast?_concat (l := 0xA5 :: (withCrc body).flatMap stuff)

/-! ### The frames of the stations (R131, R136) -/

theorem headerByte_toNat {kind : Nat} (h : kind < 16) (st : StationId) :
    (headerByte kind st).toNat = 16 * kind + st.val := by
  have hst := st.isLt
  rw [headerByte, BitVec.toNat_ofNat]
  omega

theorem headerKind_headerByte {kind : Nat} (h : kind < 16) (st : StationId) :
    headerKind (headerByte kind st) = kind := by
  have hst := st.isLt
  rw [headerKind, headerByte_toNat h]
  omega

theorem headerStation_headerByte {kind : Nat} (h : kind < 16) (st : StationId) :
    headerStation (headerByte kind st) = st := by
  have hst := st.isLt
  refine Fin.ext (show (headerByte kind st).toNat % 8 = st.val from ?_)
  rw [headerByte_toNat h]
  omega

theorem headerByte_bit {kind : Nat} (h : kind < 16) (st : StationId) : (headerByte kind st).getLsbD 3 = false := by
  have hst := st.isLt
  have hbit : ((headerByte kind st).getLsbD 3).toNat = (headerByte kind st).toNat / 2 ^ 3 % 2 := Nat.toNat_testBit ..
  rw [headerByte_toNat h] at hbit
  exact bool_eq_of_toNat (by rw [hbit]; show _ = 0; omega)

theorem wordOfBytes_wordBytes (w : Word) : wordOfBytes (w.extractLsb' 8 8) (w.extractLsb' 0 8) = w := by
  have hw := w.isLt
  apply BitVec.eq_of_toNat_eq
  rw [wordOfBytes, BitVec.toNat_append, BitVec.extractLsb'_toNat, BitVec.extractLsb'_toNat,
    ← Nat.shiftLeft_add_eq_or_of_lt (Nat.mod_lt _ (by decide)), Nat.shiftLeft_eq, Nat.shiftRight_eq_div_pow,
    Nat.shiftRight_eq_div_pow]
  omega

/-- What a station frame puts in its body: a header of its kind first, the length of the kind, and the fields. -/
theorem stationBody_fits (f : RxFrame) : ∃ kind st rest, kind < 16 ∧ stationBody f = headerByte kind st :: rest ∧
    rxLength kind = some (rest.length + 3) ∧ readBody (headerByte kind st :: rest) = some f := by
  cases f with
  | hello st b =>
    refine ⟨1, st, [b], by decide, rfl, rfl, ?_⟩
    simp only [readBody, headerKind_headerByte (by decide : 1 < 16), headerStation_headerByte (by decide : 1 < 16)]
  | helloAck st b =>
    refine ⟨2, st, [b], by decide, rfl, rfl, ?_⟩
    simp only [readBody, headerKind_headerByte (by decide : 2 < 16), headerStation_headerByte (by decide : 2 < 16)]
  | ackp st b =>
    refine ⟨6, st, [b], by decide, rfl, rfl, ?_⟩
    simp only [readBody, headerKind_headerByte (by decide : 6 < 16), headerStation_headerByte (by decide : 6 < 16)]
  | done st b =>
    refine ⟨7, st, [b], by decide, rfl, rfl, ?_⟩
    simp only [readBody, headerKind_headerByte (by decide : 7 < 16), headerStation_headerByte (by decide : 7 < 16)]
  | data st b w =>
    refine ⟨8, st, b :: wordBytes w, by decide, rfl, rfl, ?_⟩
    simp only [readBody, wordBytes, headerKind_headerByte (by decide : 8 < 16),
      headerStation_headerByte (by decide : 8 < 16), wordOfBytes_wordBytes]
  | retry st b =>
    refine ⟨9, st, [b], by decide, rfl, rfl, ?_⟩
    simp only [readBody, headerKind_headerByte (by decide : 9 < 16), headerStation_headerByte (by decide : 9 < 16)]
  | fault st b c =>
    refine ⟨10, st, [b, c], by decide, rfl, rfl, ?_⟩
    simp only [readBody, headerKind_headerByte (by decide : 10 < 16), headerStation_headerByte (by decide : 10 < 16),
      if_true]
  | evt st b w =>
    refine ⟨11, st, b :: wordBytes w, by decide, rfl, rfl, ?_⟩
    simp only [readBody, wordBytes, headerKind_headerByte (by decide : 11 < 16),
      headerStation_headerByte (by decide : 11 < 16), wordOfBytes_wordBytes]
  | pause st b =>
    refine ⟨12, st, [b], by decide, rfl, rfl, ?_⟩
    simp only [readBody, headerKind_headerByte (by decide : 12 < 16), headerStation_headerByte (by decide : 12 < 16)]
  | resume st b =>
    refine ⟨13, st, [b], by decide, rfl, rfl, ?_⟩
    simp only [readBody, headerKind_headerByte (by decide : 13 < 16), headerStation_headerByte (by decide : 13 < 16)]

theorem length_withCrc (body : List Byte) : (withCrc body).length = body.length + 2 := List.length_append ..

/-- A frame taken whole, with the CRC of its body, is judged by its body. -/
theorem judge_holding_withCrc (r : Receiver) {rest : List Byte} {kind : Nat} {st : StationId} {f : RxFrame}
    (hkind : kind < 16) (hlength : rxLength kind = some (rest.length + 3))
    (hread : readBody (headerByte kind st :: rest) = some f) :
    (holding r (withCrc (headerByte kind st :: rest))).judge = some f := by
  have hcount : (withCrc (headerByte kind st :: rest)).length = rest.length + 3 := length_withCrc _
  have hkept : (holding r (withCrc (headerByte kind st :: rest))).kept = withCrc (headerByte kind st :: rest) :=
    List.take_of_length_le (by have := (rxLength_eq_some hlength).2; omega)
  have hbody : (holding r (withCrc (headerByte kind st :: rest))).byteCount - 2 =
      (headerByte kind st :: rest).length := congrArg (· - 2) hcount
  refine judge_eq_some_iff.mpr ⟨headerByte kind st, rest ++ wordBytes _, hkept, rfl, ?_,
    headerByte_bit hkind st, ?_, ?_⟩
  · rw [headerKind_headerByte hkind, hlength, ← hcount]
    rfl
  · rw [hkept, hbody, withCrc, List.drop_left, List.take_left]
  · rw [hkept, hbody, withCrc, List.take_left, hread]

/-- Settles O18: the bodies, and each frame through the receiver. -/
theorem stationFramesAreReceived : Obligations.StationFramesAreReceived := by
  refine ⟨fun st b c w => ?_, fun r f hr => ?_⟩
  · simp only [← wordBytes_eq]
    exact ⟨rfl, rfl, rfl, rfl, rfl, rfl, rfl, rfl, rfl, rfl⟩
  · obtain ⟨kind, st, rest, hkind, hbody, hlength, hread⟩ := stationBody_fits f
    simp only [dropLast_frameOnLine, foldl_take_opened hr]
    refine ⟨getLast?_frameOnLine _, closes_iff.mpr ⟨rfl, rfl, .inl ?_⟩, ?_⟩
    · show 1 ≤ (withCrc (stationBody f)).length
      rw [length_withCrc]
      omega
    · rw [hbody]
      exact judge_holding_withCrc r hkind hlength hread

end Sys2Proof.Proofs.Framing
end

section
/-! The frames of the bridge on the line (R126, R130 to R132) and what an abort leaves there (R49, R135). -/

namespace Sys2Proof.Proofs.BridgeFrames

open Sys2Proof Sys2Proof.Machine Sys2Proof.Laws Sys2Proof.Proofs.Received Sys2Proof.Proofs.RegisterWrites
open Sys2Proof.Proofs.Framing

/-! ### Bytes and bits (R126, R130, R131) -/

theorem addrBytes_eq (a : Addr) : addrBytes a =
    [BitVec.ofNat 8 (a.toNat / 65536), BitVec.ofNat 8 (a.toNat / 256), BitVec.ofNat 8 a.toNat] := by
  have hhigh : a.extractLsb' 16 8 = BitVec.ofNat 8 (a.toNat / 65536) := by
    rw [BitVec.extractLsb', Nat.shiftRight_eq_div_pow]
  have hmiddle : a.extractLsb' 8 8 = BitVec.ofNat 8 (a.toNat / 256) := by
    rw [BitVec.extractLsb', Nat.shiftRight_eq_div_pow]
  rw [addrBytes, hhigh, hmiddle]
  rfl

/-- A byte taken into the CRC, bit by bit from the most significant (R130). -/
theorem crc_append_byte (body : List Byte) (b : Byte) :
    crc (body ++ [b]) = [7, 6, 5, 4, 3, 2, 1, 0].foldl (fun (r : Word) n =>
      if r.getLsbD 15 ^^ b.getLsbD n then (r <<< 1) ^^^ 0x1021 else r <<< 1) (crc body) := by
  have hbits : bitsMsbFirst b = [7, 6, 5, 4, 3, 2, 1, 0].map b.getLsbD := rfl
  rw [crc, List.foldl_append, List.foldl_cons, List.foldl_nil, crcByte, hbits, List.foldl_map]
  rfl

/-- The eight data levels are read back, whatever the level of the stop bit (R126). -/
theorem sampledByte_lineBits (b : Byte) (stop : Bool) : sampledByte ((lineBits b).dropLast ++ [stop]) = b := by
  have hbit (i : Nat) : (b.getLsbD i).toNat = b.toNat / 2 ^ i % 2 := by
    rw [BitVec.getLsbD, Nat.toNat_testBit]
  have hlevels : (((lineBits b).dropLast ++ [stop]).drop 1).take 8 =
      [0, 1, 2, 3, 4, 5, 6, 7].map b.getLsbD := rfl
  refine BitVec.eq_of_toNat_eq ?_
  rw [sampledByte, hlevels, List.foldr_map]
  simp only [List.foldr_cons, List.foldr_nil, hbit, BitVec.toNat_ofNat]
  have := b.isLt
  omega

/-! ### A frame cut short (R49) -/

theorem flag_notMem_stuffed (bytes : List Byte) : (0xA5 : Byte) ∉ bytes.flatMap stuff := by
  intro hmem
  obtain ⟨b, -, hb⟩ := List.mem_flatMap.mp hmem
  rw [stuff_eq] at hb
  split_ifs at hb <;> simp_all

theorem getLast?_stuffed_ne_escape (bytes : List Byte) : (bytes.flatMap stuff).getLast? ≠ some 0x5A := by
  induction bytes using List.reverseRecOn with
  | nil => simp
  | append_singleton init b _ =>
    rw [List.flatMap_append, List.flatMap_singleton, stuff_eq]
    split_ifs with hflag hescape
    · simp [List.getLast?_append]
    · simp [List.getLast?_append]
    · simpa [List.getLast?_append] using hescape

/-- A stuffed run cut short ends after a whole byte or at an escape. -/
theorem take_stuffed (bytes : List Byte) (m : Nat) : ∃ whole : List Byte,
    (bytes.flatMap stuff).take m = whole.flatMap stuff ∨
      (bytes.flatMap stuff).take m = whole.flatMap stuff ++ [0x5A] := by
  induction bytes generalizing m with
  | nil => exact ⟨[], .inl List.take_nil⟩
  | cons b rest ih =>
    rw [List.flatMap_cons]
    by_cases hwhole : (stuff b).length ≤ m
    · obtain ⟨whole, htake⟩ := ih (m - (stuff b).length)
      rw [List.take_append, List.take_of_length_le hwhole]
      exact ⟨b :: whole, htake.imp (by simp [·]) (by simp [·])⟩
    · rw [List.take_append_of_le_length (Nat.le_of_not_le hwhole)]
      match m with
      | 0 => exact ⟨[], .inl rfl⟩
      | 1 =>
        refine ⟨[], .inr ?_⟩
        rw [stuff_eq] at hwhole ⊢
        split_ifs at hwhole ⊢ <;> simp_all
      | m + 2 =>
        rw [stuff_eq] at hwhole
        split_ifs at hwhole <;> simp at hwhole

theorem lineBytes_eq (f : TxFrame) :
    lineBytes f = (0xA5 :: (withCrc (frameBody f)).flatMap stuff) ++ [0xA5] := rfl

/-- The HELLO of the data sheet. -/
theorem lineBytes_hello : lineBytes .hello = [0xA5, 0x10, 0x01, 0x0E, 0x5D, 0xA5] := by
  have hbody : frameBody .hello = [0x10, 0x01] := rfl
  have hfirst : crcByte 0xFFFF 0x10 = 0xF3C1 := by decide
  have hsecond : crcByte 0xF3C1 0x01 = 0x0E5D := by decide
  have hcrc : crc [0x10, 0x01] = 0x0E5D := by
    rw [crc, List.foldl_cons, List.foldl_cons, hfirst, hsecond, List.foldl_nil]
  rw [lineBytes, hbody, frameOnLine, withCrc, hcrc]
  rfl

theorem abortRest_eq {f : TxFrame} {point : Nat} (h : point + 1 < (lineBytes f).length) :
    abortRest f point = if (lineBytes f)[point]? = some 0x5A then [0xA5] else [0x5A, 0xA5] :=
  if_neg h.ne

/-- The bytes up to an abort and its sequence: a flag, whole bytes, an escape and a flag. -/
theorem aborted_eq {f : TxFrame} {point : Nat} (h : point + 1 < (lineBytes f).length) : ∃ whole : List Byte,
    (lineBytes f).take (point + 1) ++ abortRest f point = (0xA5 :: whole.flatMap stuff ++ [0x5A]) ++ [0xA5] := by
  have hlast : (lineBytes f)[point]? = ((lineBytes f).take (point + 1)).getLast? := by
    rw [List.getLast?_take, if_neg (Nat.succ_ne_zero point), Nat.add_sub_cancel,
      List.getElem?_eq_getElem (Nat.lt_of_succ_lt h)]
    rfl
  have htake : (lineBytes f).take (point + 1) =
      0xA5 :: ((withCrc (frameBody f)).flatMap stuff).take point := by
    rw [lineBytes_eq, List.length_append] at h
    rw [lineBytes_eq, List.take_append_of_le_length (Nat.le_of_lt_succ h), List.take_succ_cons]
  obtain ⟨whole, hcut | hcut⟩ := take_stuffed (withCrc (frameBody f)) point
  case inl =>
    have hno : (lineBytes f)[point]? ≠ some 0x5A := by
      rw [hlast, htake, hcut, List.getLast?_cons]
      have := getLast?_stuffed_ne_escape whole
      cases hend : (whole.flatMap stuff).getLast? with
      | none => simp
      | some b => simpa [hend] using this
    exact ⟨whole, by rw [abortRest_eq h, if_neg hno, htake, hcut]; simp⟩
  case inr =>
    have hyes : (lineBytes f)[point]? = some 0x5A := by
      rw [hlast, htake, hcut, ← List.cons_append, List.getLast?_concat]
    exact ⟨whole, by rw [abortRest_eq h, if_pos hyes, htake, hcut]; simp⟩

/-- A receiver that was HUNTING stands at the escape before the last flag of an aborted frame. -/
theorem foldl_take_aborted {r : Receiver} (h : r.framing = .hunting) (whole : List Byte) :
    ((0xA5 :: whole.flatMap stuff ++ [0x5A]).foldl Receiver.take r).framing = .escaped := by
  rw [List.foldl_append, foldl_take_opened h]
  rfl

/-- Only the first byte of an aborted frame and its last are flags. -/
theorem flag_at_aborted {whole : List Byte} {n : Nat} {b : Byte}
    (hb : (0xA5 :: whole.flatMap stuff ++ [0x5A])[n + 1]? = some b) : b ≠ 0xA5 := by
  rw [List.cons_append, List.getElem?_cons_succ] at hb
  rintro rfl
  rcases List.mem_append.mp (List.mem_of_getElem? hb) with hmem | hmem
  · exact flag_notMem_stuffed whole hmem
  · exact absurd (List.mem_singleton.mp hmem) (by decide)

/-- No byte before the last of an aborted frame closes a frame at a receiver that was HUNTING. -/
theorem closes_aborted {r : Receiver} (h : r.framing = .hunting) {whole : List Byte} {n : Nat} {b : Byte}
    (hb : (0xA5 :: whole.flatMap stuff ++ [0x5A])[n]? = some b) (taken : List Byte) (htaken : taken.length = n) :
    (taken.foldl Receiver.take r).closes b = false := by
  refine Bool.eq_false_iff.mpr fun hcloses => ?_
  obtain ⟨hframe, hflag, -⟩ := closes_iff.mp hcloses
  cases n with
  | zero =>
    rw [List.eq_nil_of_length_eq_zero htaken, List.foldl_nil, h] at hframe
    exact Framing.noConfusion hframe
  | succ n => exact flag_at_aborted hb hflag

/-! ### The obligation -/

/-- Settles O19: the bytes and bits by their formats, and an aborted frame by the whole bytes that it holds. -/
theorem bridgeFramesAreSentAndAborted : Obligations.BridgeFramesAreSentAndAborted := by
  refine ⟨⟨rfl, rfl, rfl, rfl, fun seq tag gen st a data => ?_⟩, ⟨rfl, crc_append_byte⟩, lineBytes_hello, fun f => rfl,
    fun body => ?_, fun b stop => ⟨rfl, sampledByte_lineBits b stop⟩, fun s l => ⟨?_, rfl⟩,
    fun r f point hunting hpoint => ⟨fun hend => if_pos hend, fun hbefore => ?_⟩⟩
  case refine_1 =>
    simp only [frameBody, addrBytes_eq, wordBytes_eq]
    exact ⟨rfl, rfl, rfl⟩
  case refine_2 =>
    rw [frameOnLine, withCrc, wordBytes_eq, funext stuff_eq]
    rfl
  case refine_3 =>
    cases htx : (s.link l).sch.tx <;> simp [State.txLine, txBytes, htx]
  case refine_4 =>
    obtain ⟨whole, haborted⟩ := aborted_eq hbefore
    simp only [haborted]
    refine ⟨abortRest_eq hbefore, List.getLast?_concat, ?_, fun n hn b hb => ?_⟩
    · rw [List.dropLast_concat]
      exact aborts_iff.mpr ⟨foldl_take_aborted hunting whole, rfl⟩
    · rw [List.length_append, List.length_singleton] at hn
      rw [List.getElem?_append_left (Nat.lt_of_succ_lt_succ hn)] at hb
      exact closes_aborted hunting hb _ (List.length_take_of_le (by rw [List.length_append]; omega))

end Sys2Proof.Proofs.BridgeFrames
end
